-- ==== Sys2Proof/Word.lean ====
section
/-! DEFINITION. The word types of the block: every register the host reaches is one unsigned byte (00_scope R10),
the CRC accumulator is 16 bits (10_state R30, conflict C2), time is an exact rational of microseconds (00_scope R12). -/

namespace Sys2Proof

/-- One byte, bit 0 the least significant (00_scope R10). -/
abbrev Byte := BitVec 8

/-- The CRC-16 accumulator (10_state R30). -/
abbrev Crc := BitVec 16

/-- An elapsed time or a timer, in microseconds (00_scope R12, decision D1). -/
abbrev Time := Rat

end Sys2Proof
end

