-- ==== Sys2Proof/Config.lean ====
section
/-! DEFINITION. The implementation parameters of 00_scope R8 and the one free value of the spec (20_memory R80). -/

namespace Sys2Proof

/-- The recording density `P_DENSITY`, fixed at reset (00_scope R8, decision D8). -/
inductive Density where
  | mfm
  | fm
  deriving DecidableEq, Repr

/-- The disk geometry the image loader supplies (00_scope R8, 10_state R50). -/
structure Geometry where
  /-- `G_CYL`, cylinders -/
  cyl : Nat
  /-- `G_SIDES`, side count -/
  sides : Nat
  /-- `G_SPT`, sectors per track -/
  spt : Nat
  /-- `G_SLEN`, sector length in bytes -/
  slen : Nat
  deriving DecidableEq, Repr

/-- The inputs of `reset` (70_reset R380): configuration, medium, head position and READY level. -/
structure Setup where
  /-- `P_DENSITY` -/
  density : Density
  /-- `P_HLT_DELAY_US` -/
  hltDelay : Time
  geom : Geometry
  /-- `G_IMAGE`, the raw sector dump -/
  image : List Byte
  /-- `R_INITIAL_TRACK` -/
  initialTrack : Nat
  /-- `R_READY` -/
  ready : Bool
  deriving DecidableEq, Repr

namespace Config

/-- `P_BYTE_TIME_US`: 80/3 (MFM) or 160/3 (FM) microseconds a byte. -/
def byteTime : Density → Time
  | .mfm => 80 / 3
  | .fm => 160 / 3

/-- `P_ROTATION_US`: one revolution at 300 RPM. -/
def rotation : Time := 200000

/-- `P_TRACK_LEN`: the bytes of one revolution. -/
def trackLen : Density → Nat
  | .mfm => 7500
  | .fm => 3750

/-- `P_INDEX_WIDTH_US` -/
def indexWidth : Time := 20

/-- `P_STEP_US[r]`, the step interval of rate code r (30_encoding R124). -/
def stepInterval (r : BitVec 2) : Time :=
  if r = 0 then 6000 else if r = 1 then 12000 else if r = 2 then 20000 else 30000

/-- `P_SETTLE_US`, `VERIFY_HEAD_SETTLING_LIMIT` -/
def settle : Time := 30000

/-- `P_E_DELAY_US` (conflict C3) -/
def eDelay : Time := 15000

/-- The least `P_HLT_DELAY_US` -/
def hltDelayMin : Time := 45000

/-- The greatest `P_HLT_DELAY_US` -/
def hltDelayMax : Time := 60000

/-- The default `P_HLT_DELAY_US` (conflict C9) -/
def hltDelayDefault : Time := 60000

/-- `P_HLD_IDLE_US` -/
def hldIdle : Time := 3000000

/-- `P_SEARCH_REVS`, index pulses of a search window -/
def searchRevs : Nat := 5

/-- `P_DAM_WINDOW`, bytes -/
def damWindow : Density → Nat
  | .mfm => 43
  | .fm => 30

/-- `P_ZERO_RUN_MIN`, bytes -/
def zeroRunMin : Nat := 6

/-- `P_GAP3`, bytes -/
def gap3 : Density → Nat
  | .mfm => 84
  | .fm => 27

/-- `P_WRITE_GAP`, bytes -/
def writeGap : Density → Nat
  | .mfm => 22
  | .fm => 11

/-- `P_WRITE_MARK`, bytes -/
def writeMark : Density → Nat
  | .mfm => 16
  | .fm => 7

/-- The FREE VALUE of the spec: the byte the n-th read of port +5 returns. The source gives the port no content;
"A model takes it as a free draw of 8 bits at each read" (20_memory R80, 93 I1; log 6). It has no body, so nothing
can be proved of it. -/
opaque auxStatusByte : Nat → Byte

end Config

end Sys2Proof
end

