-- ==== Sys2Proof/Syntax.lean ====
section
/-! DEFINITION. The 11 commands, one constructor per row of spec/opcode_table.json (30_encoding R120 to R132). -/

namespace Sys2Proof

/-- One command byte. The fields are the bits the encoding tables name, most significant first; a field `x…` is a
bit the table marks ignored (30_encoding R131): no rule reads it, but `CR` holds it (40_common R158). -/
inductive Instr where
  /-- RESTORE, `0000 h V r1 r0` (30_encoding R122) -/
  | restore (h v : Bool) (r : BitVec 2)
  /-- SEEK, `0001 h V r1 r0` (30_encoding R122) -/
  | seek (h v : Bool) (r : BitVec 2)
  /-- STEP, `001 u h V r1 r0` (30_encoding R122) -/
  | step (u h v : Bool) (r : BitVec 2)
  /-- STEP-IN, `010 u h V r1 r0` (30_encoding R122) -/
  | stepIn (u h v : Bool) (r : BitVec 2)
  /-- STEP-OUT, `011 u h V r1 r0` (30_encoding R122) -/
  | stepOut (u h v : Bool) (r : BitVec 2)
  /-- READ SECTOR, `100 m b E U x` (30_encoding R126) -/
  | readSector (m b e u x0 : Bool)
  /-- WRITE SECTOR, `101 m b E U a0` (30_encoding R126) -/
  | writeSector (m b e u a0 : Bool)
  /-- READ ADDRESS, `1100 x E U x` (30_encoding R128) -/
  | readAddress (x3 e u x0 : Bool)
  /-- READ TRACK, `1110 x E U x` (30_encoding R128) -/
  | readTrack (x3 e u x0 : Bool)
  /-- WRITE TRACK, `1111 x E U x` (30_encoding R128) -/
  | writeTrack (x3 e u x0 : Bool)
  /-- FORCE INTERRUPT, `1101 I3 I2 I1 I0` (30_encoding R129) -/
  | forceInterrupt (cond : BitVec 4)
  deriving DecidableEq, Repr

end Sys2Proof
end

