-- ==== Sys2Proof/Decode.lean ====
section
/-! DEFINITION. The command decoder (30_encoding R121 to R129), total on the 256 byte values, and the encoder. -/

namespace Sys2Proof

/-- The four command types of 30_encoding R121. -/
inductive CmdType where
  | I
  | II
  | III
  | IV
  deriving DecidableEq, Repr

/-- `classify(v)`, in the precedence of 30_encoding R121. -/
def classify (v : Byte) : CmdType :=
  if v.extractLsb' 4 4 = 0b1101#4 then .IV
  else if v.getLsbD 7 = false then .I
  else if v.extractLsb' 5 3 < 0b110#3 then .II
  else .III

/-- The Type I name and flags (30_encoding R123 to R125). -/
def decodeTypeI (v : Byte) : Instr :=
  let h := v.getLsbD 3
  let vf := v.getLsbD 2
  let r := v.extractLsb' 0 2
  let u := v.getLsbD 4
  if v.extractLsb' 4 3 = 0b000#3 then .restore h vf r
  else if v.extractLsb' 4 3 = 0b001#3 then .seek h vf r
  else if v.extractLsb' 5 2 = 0b01#2 then .step u h vf r
  else if v.extractLsb' 5 2 = 0b10#2 then .stepIn u h vf r
  else .stepOut u h vf r

/-- The Type II name and flags (30_encoding R126, R127). -/
def decodeTypeII (v : Byte) : Instr :=
  if v.getLsbD 5 = false then
    .readSector (v.getLsbD 4) (v.getLsbD 3) (v.getLsbD 2) (v.getLsbD 1) (v.getLsbD 0)
  else
    .writeSector (v.getLsbD 4) (v.getLsbD 3) (v.getLsbD 2) (v.getLsbD 1) (v.getLsbD 0)

/-- The Type III name and flags (30_encoding R128); `v[5:4] = 01` never gets here (R121). -/
def decodeTypeIII (v : Byte) : Instr :=
  if v.extractLsb' 4 2 = 0b00#2 then
    .readAddress (v.getLsbD 3) (v.getLsbD 2) (v.getLsbD 1) (v.getLsbD 0)
  else if v.extractLsb' 4 2 = 0b10#2 then
    .readTrack (v.getLsbD 3) (v.getLsbD 2) (v.getLsbD 1) (v.getLsbD 0)
  else
    .writeTrack (v.getLsbD 3) (v.getLsbD 2) (v.getLsbD 1) (v.getLsbD 0)

/-- The Type IV condition nibble `v[3:0]` (30_encoding R129). -/
def decodeTypeIV (v : Byte) : Instr := .forceInterrupt (v.extractLsb' 0 4)

/-- The command a byte written to port +0 is. Total: "Every value of `v` decodes to exactly one of the 11 commands"
(30_encoding R131), so the decoder rejects nothing. -/
def decode (v : Byte) : Instr :=
  match classify v with
  | .IV => decodeTypeIV v
  | .II => decodeTypeII v
  | .III => decodeTypeIII v
  | .I => decodeTypeI v

/-- The byte of a command, from the layouts of 30_encoding R122, R126, R128 and R129. -/
def encode : Instr → Byte
  | .restore h v r => 0b0000#4 ++ BitVec.ofBool h ++ BitVec.ofBool v ++ r
  | .seek h v r => 0b0001#4 ++ BitVec.ofBool h ++ BitVec.ofBool v ++ r
  | .step u h v r => 0b001#3 ++ BitVec.ofBool u ++ BitVec.ofBool h ++ BitVec.ofBool v ++ r
  | .stepIn u h v r => 0b010#3 ++ BitVec.ofBool u ++ BitVec.ofBool h ++ BitVec.ofBool v ++ r
  | .stepOut u h v r => 0b011#3 ++ BitVec.ofBool u ++ BitVec.ofBool h ++ BitVec.ofBool v ++ r
  | .readSector m b e u x0 =>
    0b100#3 ++ BitVec.ofBool m ++ BitVec.ofBool b ++ BitVec.ofBool e ++ BitVec.ofBool u ++ BitVec.ofBool x0
  | .writeSector m b e u a0 =>
    0b101#3 ++ BitVec.ofBool m ++ BitVec.ofBool b ++ BitVec.ofBool e ++ BitVec.ofBool u ++ BitVec.ofBool a0
  | .readAddress x3 e u x0 =>
    0b1100#4 ++ BitVec.ofBool x3 ++ BitVec.ofBool e ++ BitVec.ofBool u ++ BitVec.ofBool x0
  | .readTrack x3 e u x0 =>
    0b1110#4 ++ BitVec.ofBool x3 ++ BitVec.ofBool e ++ BitVec.ofBool u ++ BitVec.ofBool x0
  | .writeTrack x3 e u x0 =>
    0b1111#4 ++ BitVec.ofBool x3 ++ BitVec.ofBool e ++ BitVec.ofBool u ++ BitVec.ofBool x0
  | .forceInterrupt c => 0b1101#4 ++ c

/-- The instruction the decoder reads from a table word: "There is one length and no prefix, and no operand follows
the byte" (30_encoding R120), so only a one-byte word is a command (log 19). -/
def decodeTableWord (nbits w : Nat) : Option Instr :=
  if nbits = 8 ∧ w < 256 then some (decode (BitVec.ofNat 8 w)) else none

end Sys2Proof
end

