-- ==== Sys2Proof/Machine/State.lean ====
section
/-! DEFINITION. `ControllerState` (10_state R20 to R53) as plain data, in the groups R20 names, with the reasons a
call can stop and the state after reset (70_reset R381). Three fields are the model's own: `calls`, `reply` and
`auxReads` (logs 1, 2 and 6). -/

namespace Sys2Proof.Machine

/-- The 11 command names of `cmd_name` (10_state R43); `None` is the absence of one. -/
inductive CmdName where
  | restore
  | seek
  | step
  | stepIn
  | stepOut
  | readSector
  | writeSector
  | readAddress
  | readTrack
  | writeTrack
  | forceInterrupt
  deriving DecidableEq, Repr

/-- `phase`, the sub-state of the command in flight (10_state R45). -/
inductive Phase where
  | idle
  | t1Step
  | t1Settle
  | t1WaitHlt
  | t1Verify
  | xEDelay
  | xWaitHlt
  | secSearchId
  | rsSearchDam
  | rsData
  | rsCrc
  | wsGap
  | wsMark
  | wsData
  | wsCrc
  | raSearch
  | raXfer
  | rtXfer
  | wtXfer
  deriving DecidableEq, Repr

/-- `status_layout`, which layout `STR` shows (10_state R29). -/
inductive StatusLayout where
  | typeI
  | typeIIandIII
  deriving DecidableEq, Repr

/-- The registers (10_state R21 to R26, R30, R31). -/
structure Regs where
  /-- `DSR`, the data shift register (R21) -/
  dsr : Byte
  /-- `DR`, the data register, port +3 (R22) -/
  dr : Byte
  /-- `TR`, the track register, port +1 (R23) -/
  tr : Byte
  /-- `SR`, the sector register, port +2 (R24) -/
  sr : Byte
  /-- `CR`, the command register, port +0 on write (R25) -/
  cr : Byte
  /-- `STR`, the status register, port +0 on read (R26) -/
  str : Byte
  /-- `CRC`, the CRC accumulator (R30) -/
  crc : Crc
  /-- `LATCH`, the control latch, port +4 (R31) -/
  latch : Byte
  deriving DecidableEq, Repr

/-- The stored pins (10_state R32 to R41); `not_track00` is computed (R37). -/
structure Pins where
  /-- `index_pulse` (R32) -/
  indexPulse : Bool
  /-- `ready`, the drive's READY input (R33) -/
  ready : Bool
  /-- `tg43` (R34) -/
  tg43 : Bool
  /-- `hld`, Head Load (R35) -/
  hld : Bool
  /-- `hlt`, Head Load Timing (R36) -/
  hlt : Bool
  /-- `direction`: false = out/decrement, true = in/increment (R38) -/
  direction : Bool
  /-- `side_select` (R39) -/
  sideSelect : Bool
  /-- `drq`, Data Request (R40) -/
  drq : Bool
  /-- `intrq`, Interrupt Request (R41) -/
  intrq : Bool
  deriving DecidableEq, Repr

/-- The decoded command flags (10_state R44). -/
structure CmdFlags where
  /-- `f_rate`, the step-rate code -/
  rate : BitVec 2
  /-- `f_V`, verify -/
  verify : Bool
  /-- `f_h`, head load -/
  headLoad : Bool
  /-- `f_u`, track update -/
  trackUpdate : Bool
  /-- `f_a0`, data address mark -/
  a0 : Bool
  /-- `f_U`, update side select -/
  updateSide : Bool
  /-- `f_E`, E-delay -/
  eDelay : Bool
  /-- `f_b`, sector-length swap -/
  lengthSwap : Bool
  /-- `f_m`, multiple records -/
  multi : Bool
  deriving DecidableEq, Repr

/-- `armed`, the FORCE INTERRUPT conditions (10_state R47). -/
structure Armed where
  /-- not-ready to ready -/
  i0 : Bool
  /-- ready to not-ready -/
  i1 : Bool
  /-- index pulse -/
  i2 : Bool
  /-- immediate -/
  i3 : Bool
  deriving DecidableEq, Repr

/-- The command context (10_state R42 to R45, R47). -/
structure CmdContext where
  /-- `cmd_type`, of the command last accepted; `none` is the spec's None (R42) -/
  cmdType : Option CmdType
  /-- `cmd_name`, written with `cmd_type` (R43) -/
  cmdName : Option CmdName
  flags : CmdFlags
  phase : Phase
  armed : Armed
  deriving DecidableEq, Repr

/-- The progress flags (10_state R46). -/
structure Progress where
  commandActionDone : Bool
  /-- true when no command is in flight; BUSY is its negation -/
  commandDone : Bool
  headSettlingDone : Bool
  eDelayDone : Bool
  startByteSet : Bool
  terminateCommand : Bool
  deriving DecidableEq, Repr

/-- The latched error flags (10_state R48). -/
structure Latched where
  seekError : Bool
  crcError : Bool
  /-- record not found -/
  rnf : Bool
  lostData : Bool
  recordType : Bool
  deriving DecidableEq, Repr

/-- The timers (10_state R49). -/
structure Timers where
  /-- `t_master` -/
  master : Time
  /-- `t_index_enc` -/
  indexEnc : Time
  /-- `t_index_w` -/
  indexWidth : Time
  /-- `t_step` -/
  step : Time
  /-- `t_settle` -/
  settle : Time
  /-- `t_edelay` -/
  eDelay : Time
  /-- `rot_acc`, byte-assembly -/
  rotAcc : Time
  /-- `t_hld_idle` -/
  hldIdle : Time
  /-- `t_hlt` -/
  hlt : Time
  deriving DecidableEq, Repr

/-- Head position and medium addressing (10_state R50 to R52). -/
structure Head where
  /-- `current_track`, the cylinder under the head (R50) -/
  currentTrack : Nat
  /-- `rot_ptr`, the rotational byte pointer (R51) -/
  rotPtr : Nat
  /-- `start_ptr` (R51) -/
  startPtr : Nat
  /-- `image_offset` (R52) -/
  imageOffset : Nat
  deriving DecidableEq, Repr

/-- `id_buf[0..5]`, the collected ID field (10_state R53, 40_common R177). -/
structure IdField where
  /-- `id_buf[0]` -/
  track : Byte
  /-- `id_buf[1]` -/
  side : Byte
  /-- `id_buf[2]` -/
  sector : Byte
  /-- `id_buf[3]`, the length code N -/
  lengthCode : Byte
  /-- `id_buf[4]` -/
  crcHi : Byte
  /-- `id_buf[5]` -/
  crcLo : Byte
  deriving DecidableEq, Repr

/-- The search bookkeeping (10_state R53). -/
structure Search where
  /-- zero-byte run length -/
  zr : Nat
  /-- sync-mark count -/
  sc : Nat
  amFound : Bool
  idBuf : IdField
  idCount : Nat
  indexCount : Nat
  damCount : Nat
  xferCount : Nat
  wcount : Nat
  /-- `crc_buf[0]` -/
  crcHi : Byte
  /-- `crc_buf[1]` -/
  crcLo : Byte
  crcCount : Nat
  deriving DecidableEq, Repr

/-- The image space, sparse: (offset, byte) pairs (20_memory R70). -/
abbrev Memory := List Host.Cell

/-- The constants fixed at reset: density, HLT delay, geometry and image (10_state R20, R50; 00_scope R8). -/
structure Medium where
  /-- `P_DENSITY` -/
  density : Density
  /-- `P_HLT_DELAY_US` -/
  hltDelay : Time
  geom : Geometry
  /-- `G_IMAGE`; an unlisted offset reads `Memory.unlisted` -/
  image : Memory
  deriving DecidableEq, Repr

/-- The entry points (40_common R150): one call the host or a collaborator makes. -/
inductive Call where
  /-- `reset(config, medium, R_INITIAL_TRACK, R_READY)` (70_reset R380) -/
  | reset (c : Setup)
  /-- `write(port, v)` (40_common R151) -/
  | write (port : Nat) (v : Byte)
  /-- `read(port)` (40_common R151) -/
  | read (port : Nat)
  /-- `advance(dt)` (40_common R152) -/
  | advance (dt : Time)
  /-- `set_ready(level)` (40_common R153) -/
  | setReady (level : Bool)
  /-- `pins()` (40_common R154) -/
  | pins
  deriving DecidableEq, Repr

/-- The ten pin levels `pins()` returns (40_common R154). -/
structure PinLevels where
  indexPulse : Bool
  ready : Bool
  tg43 : Bool
  hld : Bool
  hlt : Bool
  notTrack00 : Bool
  direction : Bool
  sideSelect : Bool
  drq : Bool
  intrq : Bool
  deriving DecidableEq, Repr

/-- What a call returns to its caller (40_common R151, R154). The model's own. -/
inductive Reply where
  | nothing
  | byte (v : Byte)
  | levels (p : PinLevels)
  deriving DecidableEq, Repr

/-- The whole machine (10_state R20). -/
structure State where
  regs : Regs
  statusLayout : StatusLayout
  pins : Pins
  cmd : CmdContext
  prog : Progress
  latched : Latched
  timers : Timers
  head : Head
  search : Search
  medium : Medium
  /-- The MODEL's own: the calls still to be made, in order (log 1). -/
  calls : List Call
  /-- The MODEL's own: what the last call returned (log 2). -/
  reply : Reply
  /-- The MODEL's own: how many reads of port +5 have been made; it indexes `Config.auxStatusByte` (log 6). -/
  auxReads : Nat
  deriving DecidableEq, Repr

/-- Why the machine stops with a fault. The block has none a host can cause (40_common R182); both name states no
run reaches. -/
inductive Fault where
  /-- Raised by a tick that finds a command in flight in a phase that has no handler for it: the "internal-logic
  fault" of RS §7 (5), treatment `fault`, unreachable (93 I5, 60_exceptions R339; log 10). Safe. -/
  | internalLogic
  /-- Raised by a tick that finds the head on a cylinder the medium lacks, an address outside the medium space of
  20_memory R70 (log 11). Unreachable. Safe. -/
  | offMedium
  deriving DecidableEq, Repr

/-- Why a call has no successor state. -/
inductive Refusal where
  /-- Raised by an arm of `exec` whose instruction has no meaning yet. Safe. -/
  | notModelled (mnemonic : String)
  /-- X1 TICK_RANGE: raised by `advance(dt)` unless `0 < dt ≤ P_BYTE_TIME_US` (60_exceptions R338, 40_common R152).
  Safe: the spec refuses the call. -/
  | tickOutOfRange
  /-- X2 BAD_MEDIUM: raised by `reset` with inputs outside 20_memory R101 (60_exceptions R338). Safe: the spec refuses
  the call. -/
  | badMedium
  /-- Raised by `reset` with `P_HLT_DELAY_US` outside 45000..60000 (00_scope R8; log 9). Safe: the spec describes no
  such block. -/
  | badHltDelay
  deriving DecidableEq, Repr

/-- `not_track00`, "the logical negation of `current_track == 0`", computed and never stored (10_state R37). -/
def State.notTrack00 (s : State) : Bool := decide (s.head.currentTrack ≠ 0)

/-- The state after reset (70_reset R381, R382) with the default parameters of 00_scope R8 (`MFM`, HLT delay 60000,
`R_INITIAL_TRACK` 0, `R_READY` 1). DESIGN CHOICE, unsafe (log 4): 00_scope R8 gives the geometry and the image no
default; this is a 40-cylinder, one-sided disk of 9 sectors of 256 zero bytes. No call is pending (log 1). -/
def State.reset : State where
  regs :=
    { dsr := 0x00, dr := 0x00, tr := 0x00, sr := 0x00, cr := 0x00, str := 0x04, crc := 0x0000, latch := 0x00 }
  statusLayout := .typeI
  pins :=
    { indexPulse := false, ready := true, tg43 := false, hld := false, hlt := false,
      direction := false, sideSelect := false, drq := false, intrq := false }
  cmd :=
    { cmdType := none
      cmdName := none
      flags :=
        { rate := 0, verify := false, headLoad := false, trackUpdate := false, a0 := false,
          updateSide := false, eDelay := false, lengthSwap := false, multi := false }
      phase := .idle
      armed := { i0 := false, i1 := false, i2 := false, i3 := false } }
  prog :=
    { commandActionDone := false, commandDone := true, headSettlingDone := false,
      eDelayDone := false, startByteSet := false, terminateCommand := false }
  latched :=
    { seekError := false, crcError := false, rnf := false, lostData := false, recordType := false }
  timers :=
    { master := 0, indexEnc := 0, indexWidth := 0, step := 0, settle := 0, eDelay := 0,
      rotAcc := 0, hldIdle := 0, hlt := 0 }
  head := { currentTrack := 0, rotPtr := 0, startPtr := 0, imageOffset := 0 }
  search :=
    { zr := 0, sc := 0, amFound := false
      idBuf := { track := 0, side := 0, sector := 0, lengthCode := 0, crcHi := 0, crcLo := 0 }
      idCount := 0, indexCount := 0, damCount := 0, xferCount := 0, wcount := 0
      crcHi := 0, crcLo := 0, crcCount := 0 }
  medium :=
    { density := .mfm
      hltDelay := Config.hltDelayDefault
      geom := { cyl := 40, sides := 1, spt := 9, slen := 256 }
      image := [] }
  calls := []
  reply := .nothing
  auxReads := 0

end Sys2Proof.Machine
end

