-- ==== Sys2Proof/WellFormed.lean ====
section
/-! DEFINITION. Which terms mean something: every command does (30_encoding R131); the inputs of `reset` must meet
the bounds of 20_memory R101 and the range of `P_HLT_DELAY_US` (00_scope R8); a tick must be at most one byte time
(40_common R152). -/

namespace Sys2Proof

/-- Every command byte is a well-formed command: "No command byte is illegal" (30_encoding R131). The fields of
`Instr` have the widths of the encoding's fields, so no term is out of range. -/
def Instr.wf (_ : Instr) : Bool := true

/-- The bytes before the first sector record (20_memory R84, R85). -/
def Config.preambleLen : Density → Nat
  | .mfm => 146
  | .fm => 73

/-- The bytes of one sector record with a data field of `slen` bytes (20_memory R84, R85). -/
def Config.recordLen (d : Density) (slen : Nat) : Nat :=
  match d with
  | .mfm => 62 + slen + Config.gap3 .mfm
  | .fm => 33 + slen + Config.gap3 .fm

/-- `used` of 20_memory R86: the formatted bytes of a track before gap 4b. -/
def Geometry.used (d : Density) (g : Geometry) : Nat :=
  Config.preambleLen d + g.spt * Config.recordLen d g.slen

/-- The length `G_IMAGE` must have (20_memory R101). -/
def Geometry.imageLen (g : Geometry) : Nat := g.cyl * g.sides * g.spt * g.slen

/-- The bounds 20_memory R101 puts on the geometry, the fit of the layout in the track among them (R86). -/
def Geometry.wf (d : Density) (g : Geometry) : Bool :=
  decide (1 ≤ g.cyl ∧ g.cyl ≤ 256)
    && decide (g.sides = 1 ∨ g.sides = 2)
    && decide (1 ≤ g.spt ∧ g.spt ≤ 255)
    && decide (g.slen = 128 ∨ g.slen = 256 ∨ g.slen = 512 ∨ g.slen = 1024)
    && decide (g.used d ≤ Config.trackLen d)

/-- Every bound of 20_memory R101 on the inputs of `reset`. -/
def Setup.mediumWf (c : Setup) : Bool :=
  c.geom.wf c.density
    && decide (c.image.length = c.geom.imageLen)
    && decide (c.initialTrack < c.geom.cyl)

/-- The range 00_scope R8 gives `P_HLT_DELAY_US`. -/
def Config.hltDelayOk (q : Time) : Bool :=
  decide (Config.hltDelayMin ≤ q ∧ q ≤ Config.hltDelayMax)

/-- The precondition of `advance(dt)`: `0 < dt ≤ P_BYTE_TIME_US` (40_common R152). -/
def Config.tickOk (d : Density) (dt : Time) : Bool :=
  decide (0 < dt ∧ dt ≤ Config.byteTime d)

end Sys2Proof
end

