-- ==== Sys2Proof/Machine/Medium.lean ====
section
/-! DEFINITION. The image space, the CRC and the formatted medium (20_memory sections 3 and 4). The block reads all of
it and writes none of it (R93), so there is no write operation. -/

namespace Sys2Proof.Machine

/-! The image space: one canonical list. -/

/-- What an offset the image does not list reads as: 0x00. DESIGN CHOICE, unsafe (log 5). -/
def Memory.unlisted : Byte := 0x00

/-- The byte at an image offset. -/
def Memory.read : Memory → Nat → Byte
  | [], _ => Memory.unlisted
  | (a, b) :: rest, o => if a = o then b else Memory.read rest o

/-- The canonical form from offset `lo` on: offsets strictly rising, no entry that an unlisted offset reads as. -/
def Memory.wfFrom : Nat → Memory → Bool
  | _, [] => true
  | lo, (a, b) :: rest => decide (lo ≤ a) && decide (b ≠ Memory.unlisted) && Memory.wfFrom (a + 1) rest

/-- The canonical form of the image. -/
def Memory.wf (m : Memory) : Bool := Memory.wfFrom 0 m

/-- The image whose bytes stand at offsets `lo`, `lo + 1`, … (20_memory R70: the image is addressed by byte offset). -/
def Memory.ofBytesFrom : Nat → List Byte → Memory
  | _, [] => []
  | lo, b :: rest =>
    if b = Memory.unlisted then Memory.ofBytesFrom (lo + 1) rest
    else (lo, b) :: Memory.ofBytesFrom (lo + 1) rest

/-- The image a byte string is (20_memory R70, R83). -/
def Memory.ofBytes (bs : List Byte) : Memory := Memory.ofBytesFrom 0 bs

/-! CRC (20_memory R90 to R92). -/

/-- One bit of `crc_step` (20_memory R90). -/
def crcShift (c : Crc) : Crc :=
  if c.getLsbD 15 then (c <<< 1) ^^^ 0x1021#16 else c <<< 1

/-- `n` bits of `crc_step`. -/
def crcShifts : Nat → Crc → Crc
  | 0, c => c
  | n + 1, c => crcShifts n (crcShift c)

/-- `crc_step(c, b)` (20_memory R90). -/
def crcStep (c : Crc) (b : Byte) : Crc := crcShifts 8 (c ^^^ (b.zeroExtend 16 <<< 8))

/-- `crc16` from an accumulator on. -/
def crcFold (c : Crc) (bs : List Byte) : Crc := bs.foldl crcStep c

/-- `crc16(bytes)`, initial value 0xFFFF (20_memory R90). -/
def crc16 (bs : List Byte) : Crc := crcFold 0xFFFF#16 bs

/-- The high byte of a CRC, stored first (20_memory R92). -/
def crcHiByte (c : Crc) : Byte := c.extractLsb' 8 8

/-- The low byte of a CRC. -/
def crcLoByte (c : Crc) : Byte := c.extractLsb' 0 8

/-- `CRC_hi × 256 + CRC_lo` (20_memory R92). -/
def crcOfBytes (hi lo : Byte) : Crc := hi ++ lo

/-- The mark prefix `pre(m)` (20_memory R91). -/
def markPrefix (d : Density) (m : Byte) : List Byte :=
  match d with
  | .mfm => [0xA1, 0xA1, 0xA1, m]
  | .fm => [m]

/-- The sync field and mark of a record: `sync(mark)` (42_type2 R251). -/
def syncBytes (d : Density) (m : Byte) : List Byte :=
  match d with
  | .mfm => List.replicate 12 0x00 ++ List.replicate 3 0xA1 ++ [m]
  | .fm => List.replicate 6 0x00 ++ [m]

/-! The formatted track (20_memory R83 to R89). -/

/-- The length code N with `G_SLEN = 128 × 2^N` (20_memory R87). -/
def lengthCode (slen : Nat) : Byte :=
  if slen = 128 then 0 else if slen = 256 then 1 else if slen = 512 then 2 else 3

/-- `ImageOffset(t, s, r)` (20_memory R89). -/
def imageOffset (g : Geometry) (t s r : Nat) : Nat := ((t * g.sides + s) * g.spt + (r - 1)) * g.slen

/-- The four body bytes `t, s, r, N` of an ID field (20_memory R87). -/
def idBody (g : Geometry) (t s r : Nat) : List Byte :=
  [BitVec.ofNat 8 t, BitVec.ofNat 8 s, BitVec.ofNat 8 r, lengthCode g.slen]

/-- The data bytes of sector r (20_memory R88). -/
def sectorData (m : Medium) (t s r : Nat) : List Byte :=
  (List.range m.geom.slen).map fun i => m.image.read (imageOffset m.geom t s r + i)

/-- A field as it stands on the medium: its body and its CRC, high byte first (20_memory R91, R92). -/
def fieldBytes (d : Density) (mark : Byte) (body : List Byte) : List Byte :=
  let c := crc16 (markPrefix d mark ++ body)
  body ++ [crcHiByte c, crcLoByte c]

/-- The gap byte: 0x4E (MFM) or 0xFF (FM) (20_memory R84, R85). -/
def gapByte : Density → Byte
  | .mfm => 0x4E
  | .fm => 0xFF

/-- Gap 2: the gap bytes between an ID field and its data field's sync (20_memory R84, R85). -/
def gap2 : Density → Nat
  | .mfm => 22
  | .fm => 11

/-- One sector record (20_memory R84, R85). -/
def sectorRecord (m : Medium) (t s r : Nat) : List Byte :=
  syncBytes m.density 0xFE
    ++ fieldBytes m.density 0xFE (idBody m.geom t s r)
    ++ List.replicate (gap2 m.density) (gapByte m.density)
    ++ syncBytes m.density 0xFB
    ++ fieldBytes m.density 0xFB (sectorData m t s r)
    ++ List.replicate (Config.gap3 m.density) (gapByte m.density)

/-- The bytes before the first sector record: gap 4a, sync, index address mark, gap 1 (20_memory R84, R85). -/
def preamble : Density → List Byte
  | .mfm =>
    List.replicate 80 0x4E ++ List.replicate 12 0x00 ++ List.replicate 3 0xC2 ++ [0xFC] ++ List.replicate 50 0x4E
  | .fm => List.replicate 40 0xFF ++ List.replicate 6 0x00 ++ [0xFC] ++ List.replicate 26 0xFF

/-- `Track(t, s)`: preamble, the records of sectors 1 to `G_SPT` in ascending order, gap 4b (20_memory R84 to R86). -/
def trackBytes (m : Medium) (t s : Nat) : List Byte :=
  preamble m.density
    ++ (List.range m.geom.spt).flatMap (fun i => sectorRecord m t s (i + 1))
    ++ List.replicate (Config.trackLen m.density - m.geom.used m.density) (gapByte m.density)

/-- `MediumByte(t, s, p)`; a side the medium lacks reads 0x00 (20_memory R82, decision D35). -/
def mediumByte (m : Medium) (t s p : Nat) : Byte :=
  if s < m.geom.sides then (trackBytes m t s).getD p 0x00 else 0x00

end Sys2Proof.Machine
end

