-- ==== Sys2Proof/Machine/Operands.lean ====
section
/-! DEFINITION. The operands of the commands: their names, types and flags (30_encoding R123 to R130, 10_state R44),
and the parameters that depend on them. -/

namespace Sys2Proof.Machine

/-- The type of a command name (00_scope R2, 30_encoding R121). -/
def CmdName.type : CmdName → CmdType
  | .restore | .seek | .step | .stepIn | .stepOut => .I
  | .readSector | .writeSector => .II
  | .readAddress | .readTrack | .writeTrack => .III
  | .forceInterrupt => .IV

/-- The name of a command (30_encoding R123, R126, R128, R129). -/
def commandName : Instr → CmdName
  | .restore .. => .restore
  | .seek .. => .seek
  | .step .. => .step
  | .stepIn .. => .stepIn
  | .stepOut .. => .stepOut
  | .readSector .. => .readSector
  | .writeSector .. => .writeSector
  | .readAddress .. => .readAddress
  | .readTrack .. => .readTrack
  | .writeTrack .. => .writeTrack
  | .forceInterrupt .. => .forceInterrupt

/-- A read-type command (00_scope R13): its DRQ is cleared by a read of `DR` (20_memory R76). -/
def CmdName.readType : CmdName → Bool
  | .readSector | .readAddress | .readTrack => true
  | .restore | .seek | .step | .stepIn | .stepOut | .writeSector | .writeTrack | .forceInterrupt => false

/-- A write-type command (00_scope R13): its DRQ is cleared by a write of `DR` (20_memory R77). -/
def CmdName.writeType : CmdName → Bool
  | .writeSector | .writeTrack => true
  | .restore | .seek | .step | .stepIn | .stepOut | .readSector | .readAddress | .readTrack
  | .forceInterrupt => false

/-- The Type I flags written over the old ones; the flags of the other types keep their values (30_encoding R124,
R125; 10_state R44). -/
def CmdFlags.withTypeI (f : CmdFlags) (h v u : Bool) (r : BitVec 2) : CmdFlags :=
  { f with rate := r, verify := v, headLoad := h, trackUpdate := u }

/-- The flags of READ SECTOR: m, b, E, U; bit 0 is ignored, so `f_a0` keeps its value (30_encoding R127, R131;
42_type2 R249; DEDUCED, log 7). -/
def CmdFlags.withReadSector (f : CmdFlags) (m b e u : Bool) : CmdFlags :=
  { f with multi := m, lengthSwap := b, eDelay := e, updateSide := u }

/-- The flags of WRITE SECTOR: m, b, E, U and a0 (30_encoding R127, 42_type2 R254). -/
def CmdFlags.withWriteSector (f : CmdFlags) (m b e u a0 : Bool) : CmdFlags :=
  { f with multi := m, lengthSwap := b, eDelay := e, updateSide := u, a0 := a0 }

/-- The flags of a Type III command: E and U only (30_encoding R128; DEDUCED, log 8). -/
def CmdFlags.withTypeIII (f : CmdFlags) (e u : Bool) : CmdFlags :=
  { f with eDelay := e, updateSide := u }

/-- `armed` from the condition nibble (44_type4 R310). -/
def Armed.ofNibble (c : BitVec 4) : Armed :=
  { i0 := c.getLsbD 0, i1 := c.getLsbD 1, i2 := c.getLsbD 2, i3 := c.getLsbD 3 }

/-- `seclen(N, f_b)`, the sector length a length code stands for (30_encoding R130). -/
def seclen (n : Byte) (b : Bool) : Nat :=
  let k := n.extractLsb' 0 2
  if b then
    (if k = 0 then 128 else if k = 1 then 256 else if k = 2 then 512 else 1024)
  else
    (if k = 0 then 256 else if k = 1 then 512 else if k = 2 then 1024 else 128)

/-- The data address mark WRITE SECTOR writes: 0xF8 if `f_a0 = 1`, else 0xFB (30_encoding R127, 42_type2 R251). -/
def dataMark (a0 : Bool) : Byte := if a0 then 0xF8 else 0xFB

/-- Replace byte `i` of the ID buffer; there is no byte past index 5 (10_state R53; log 13). -/
def IdField.set (f : IdField) (i : Nat) (b : Byte) : IdField :=
  match i with
  | 0 => { f with track := b }
  | 1 => { f with side := b }
  | 2 => { f with sector := b }
  | 3 => { f with lengthCode := b }
  | 4 => { f with crcHi := b }
  | 5 => { f with crcLo := b }
  | _ => f

/-- The CRC the ID buffer holds, `id_buf[4] × 256 + id_buf[5]` (40_common R177). -/
def IdField.crc (f : IdField) : Crc := crcOfBytes f.crcHi f.crcLo

end Sys2Proof.Machine
end

