-- ==== Sys2Proof/Machine/Flags.lean ====
section
/-! DEFINITION. The status register, composed from the pins and the latched bits in its two layouts (10_state R26 to
R29, 40_common R173). -/

namespace Sys2Proof.Machine

/-- A byte from its bits, bit 7 first. -/
def byteOfBits (b7 b6 b5 b4 b3 b2 b1 b0 : Bool) : Byte :=
  BitVec.ofBool b7 ++ BitVec.ofBool b6 ++ BitVec.ofBool b5 ++ BitVec.ofBool b4
    ++ BitVec.ofBool b3 ++ BitVec.ofBool b2 ++ BitVec.ofBool b1 ++ BitVec.ofBool b0

/-- The Type I layout: NOT READY, WRITE PROTECT (always 0), HEAD LOADED, SEEK ERROR, CRC ERROR, TRACK 00, INDEX, BUSY
(10_state R27). -/
def State.statusTypeI (s : State) : Byte :=
  byteOfBits (!s.pins.ready) false (s.pins.hld && s.pins.hlt) s.latched.seekError
    s.latched.crcError (!s.notTrack00) s.pins.indexPulse (!s.prog.commandDone)

/-- The Type II/III layout: NOT READY, WRITE PROTECT (always 0), RECORD TYPE, RECORD NOT FOUND, CRC ERROR, LOST DATA,
DRQ, BUSY (10_state R28). -/
def State.statusTypeIIandIII (s : State) : Byte :=
  byteOfBits (!s.pins.ready) false s.latched.recordType s.latched.rnf
    s.latched.crcError s.latched.lostData s.pins.drq (!s.prog.commandDone)

/-- What `status_refresh()` writes to `STR` (40_common R173). -/
def State.status (s : State) : Byte :=
  match s.statusLayout with
  | .typeI => s.statusTypeI
  | .typeIIandIII => s.statusTypeIIandIII

end Sys2Proof.Machine
end

