-- ==== Sys2Proof/Machine/Ops.lean ====
section
/-! DEFINITION. The shared operations of 40_common sections 2 and 4, and the byte transfers of section 6. The block has
no trap entry and no return (60_exceptions R345): what it has instead is the INTRQ latch, set by `finish` (R170), by the
not-ready abort (R159) and by the FORCE INTERRUPT conditions, and cleared by a read of port +0 or a new command. -/

namespace Sys2Proof.Machine

/-! The routines of 40_common section 4. -/

/-- `status_refresh()` (40_common R173). -/
def State.statusRefresh (s : State) : State := { s with regs.str := s.status }

/-- `finish()`: the normal end of a command. `drq` is not changed (40_common R170). -/
def State.finish (s : State) : State :=
  { s with prog.commandDone := true, cmd.phase := .idle, pins.intrq := true, timers.hldIdle := 0 }

/-- `terminate()`: the end of a command without an interrupt of its own (40_common R171). -/
def State.terminate (s : State) : State :=
  { s with prog.commandDone := true, cmd.phase := .idle, pins.drq := false }

/-- `hld_set()`: a rising edge of HLD arms the HLT one-shot; if HLD is already high nothing changes (40_common R172). -/
def State.hldSet (s : State) : State :=
  if s.pins.hld then s
  else { s with pins.hld := true, pins.hlt := false, timers.hlt := 0 }

/-- A FORCE INTERRUPT condition fires: INTRQ is set and a command in flight is terminated (44_type4 R313 to R315). -/
def State.fireCondition (s : State) : State :=
  let s := { s with pins.intrq := true }
  if s.prog.commandDone then s else s.terminate

/-! The command dispatch of 40_common section 2. -/

/-- `start_common(v, t)` for the command `n` with byte `v` and decoded flags `f` (40_common R158). -/
def State.startCommon (v : Byte) (n : CmdName) (f : CmdFlags) (s : State) : State :=
  { s with
    regs.cr := v
    pins.intrq := false
    pins.drq := false
    latched := { seekError := false, crcError := false, rnf := false, lostData := false, recordType := false }
    cmd.cmdType := some n.type
    cmd.cmdName := some n
    cmd.flags := f
    statusLayout := if n.type = .I then .typeI else .typeIIandIII
    prog.commandActionDone := false
    prog.headSettlingDone := false
    prog.eDelayDone := false
    prog.startByteSet := false
    prog.terminateCommand := false }

/-- `head_load_at_start()`: HLD follows the h flag; HLT keeps its level when HLD falls (41_type1 R201). -/
def State.headLoadAtStart (s : State) : State :=
  if s.cmd.flags.headLoad then s.hldSet else { s with pins.hld := false }

/-- `type1_setup()`, with the direction the command's case gives (41_type1 R200). -/
def State.type1Setup (dir : Bool) (s : State) : State :=
  { s.headLoadAtStart with pins.direction := dir, timers.step := 0, cmd.phase := .t1Step }

/-- `type23_setup()` (42_type2 R240). -/
def State.type23Setup (s : State) : State :=
  let s := { s with pins.sideSelect := s.cmd.flags.updateSide }
  let s := s.hldSet
  { s with timers.eDelay := 0, cmd.phase := if s.cmd.flags.eDelay then .xEDelay else .xWaitHlt }

/-- `not_ready_abort()`: INTRQ is set and BUSY never is (40_common R159). -/
def State.notReadyAbort (s : State) : State := { s with pins.intrq := true }

/-- A command is taken: `command_done <- 0` (40_common R157). -/
def State.setBusy (s : State) : State := { s with prog.commandDone := false }

/-- The write of a Type I command byte: rejected without a trace while busy (40_common R160), else started (R157,
R158, 41_type1 R200), and `STR` refreshed (R151). -/
def State.writeTypeI (v : Byte) (n : CmdName) (f : CmdFlags) (dir : Bool) (s : State) : State :=
  (if s.prog.commandDone then ((s.startCommon v n f).setBusy).type1Setup dir else s).statusRefresh

/-- The write of a Type II or III command byte: rejected without a trace while busy (40_common R160), started and
aborted when the drive is not ready (R159), else started (R157, 42_type2 R240), and `STR` refreshed (R151). -/
def State.writeTypeIIorIII (v : Byte) (n : CmdName) (f : CmdFlags) (s : State) : State :=
  (if s.prog.commandDone then
    let s := s.startCommon v n f
    if s.pins.ready then s.setBusy.type23Setup else s.notReadyAbort
  else s).statusRefresh

/-! The byte transfers of 40_common section 6. -/

/-- `deliver(b)`: one byte of a read transfer; an uncollected byte is replaced and `lost_data` set (40_common R179). -/
def State.deliver (b : Byte) (s : State) : State :=
  { s with
    regs.dsr := b
    latched.lostData := s.latched.lostData || s.pins.drq
    regs.dr := b
    pins.drq := true }

/-- The byte `take()` returns: `DR`, or 0x00 when the host did not supply one (40_common R180). -/
def State.takenByte (s : State) : Byte := if s.pins.drq then 0x00 else s.regs.dr

/-- The state `take()` leaves (40_common R180). -/
def State.take (s : State) : State :=
  { s with
    regs.dsr := s.takenByte
    latched.lostData := s.latched.lostData || s.pins.drq }

/-- `CRC <- crc_step(CRC, b)` (20_memory R91). -/
def State.crcByte (b : Byte) (s : State) : State := { s with regs.crc := crcStep s.regs.crc b }

/-- `CRC <- crc16(pre(m))`, when a mark is found (20_memory R91). -/
def State.crcMark (m : Byte) (s : State) : State :=
  { s with regs.crc := crc16 (markPrefix s.medium.density m) }

/-- `set_image_offset()`: the offset of the target sector where it is one of the medium's, else unchanged
(42_type2 R243). -/
def State.setImageOffset (s : State) : State :=
  if s.head.currentTrack < s.medium.geom.cyl ∧ s.pins.sideSelect.toNat < s.medium.geom.sides
      ∧ 1 ≤ s.regs.sr.toNat ∧ s.regs.sr.toNat ≤ s.medium.geom.spt then
    { s with
      head.imageOffset :=
        imageOffset s.medium.geom s.head.currentTrack s.pins.sideSelect.toNat s.regs.sr.toNat }
  else s

/-- The ten pin levels (40_common R154). -/
def State.pinLevels (s : State) : PinLevels :=
  { indexPulse := s.pins.indexPulse
    ready := s.pins.ready
    tg43 := s.pins.tg43
    hld := s.pins.hld
    hlt := s.pins.hlt
    notTrack00 := s.notTrack00
    direction := s.pins.direction
    sideSelect := s.pins.sideSelect
    drq := s.pins.drq
    intrq := s.pins.intrq }

end Sys2Proof.Machine
end

