-- ==== Sys2Proof/Machine/Search.lean ====
section
/-! DEFINITION. Address-mark detection, ID collection and the search window (40_common section 5). -/

namespace Sys2Proof.Machine

/-- `det_reset()` (40_common R174). -/
def Search.detReset (q : Search) : Search := { q with zr := 0, sc := 0 }

/-- `detect(b, marks)` in MFM: a zero run, three 0xA1, then a mark (40_common R175). -/
def Search.detectMfm (q : Search) (b : Byte) (marks : List Byte) : Search × Option Byte :=
  if b = 0x00 then ({ q with zr := q.zr + 1, sc := 0 }, none)
  else if b = 0xA1 ∧ Config.zeroRunMin ≤ q.zr ∧ q.sc < 3 then ({ q with sc := q.sc + 1 }, none)
  else if b ∈ marks ∧ q.sc = 3 then (q.detReset, some b)
  else (q.detReset, none)

/-- `detect(b, marks)` in FM: a zero run, then a mark (40_common R176). -/
def Search.detectFm (q : Search) (b : Byte) (marks : List Byte) : Search × Option Byte :=
  if b = 0x00 then ({ q with zr := q.zr + 1 }, none)
  else if b ∈ marks ∧ Config.zeroRunMin ≤ q.zr then (q.detReset, some b)
  else (q.detReset, none)

/-- `detect(b, marks)` in the density of the medium (40_common R175, R176). -/
def Search.detect (d : Density) (q : Search) (b : Byte) (marks : List Byte) : Search × Option Byte :=
  match d with
  | .mfm => q.detectMfm b marks
  | .fm => q.detectFm b marks

/-- `det_reset()` on the whole state (40_common R174). -/
def State.detReset (s : State) : State := { s with search := s.search.detReset }

/-- `search_start()` (40_common R174). -/
def State.searchStart (s : State) : State :=
  { s with search := { s.search.detReset with amFound := false, idCount := 0, indexCount := 0 } }

/-- `detect(b, marks)` on the whole state: the state it leaves. -/
def State.detect (b : Byte) (marks : List Byte) (s : State) : State :=
  { s with search := (s.search.detect s.medium.density b marks).1 }

/-- `detect(b, marks)` on the whole state: the mark it returns. -/
def State.detected (b : Byte) (marks : List Byte) (s : State) : Option Byte :=
  (s.search.detect s.medium.density b marks).2

/-- `id_byte(b)` before an ID mark: look for 0xFE (40_common R177). -/
def State.idHunt (b : Byte) (s : State) : State :=
  match s.detected b [0xFE] with
  | some _ =>
    let s := (s.detect b [0xFE]).crcMark 0xFE
    { s with search.amFound := true, search.idCount := 0 }
  | none => s.detect b [0xFE]

/-- `id_byte(b)` after an ID mark: one byte of the ID field, the first four of them in the CRC (40_common R177). -/
def State.idCollect (b : Byte) (s : State) : State :=
  { s with
    search.idBuf := s.search.idBuf.set s.search.idCount b
    search.idCount := s.search.idCount + 1
    regs.crc := if s.search.idCount + 1 ≤ 4 then crcStep s.regs.crc b else s.regs.crc
    search.amFound := if s.search.idCount + 1 = 6 then false else s.search.amFound }

/-- The state `id_byte(b)` leaves (40_common R177). -/
def State.idByte (b : Byte) (s : State) : State :=
  if s.search.amFound then s.idCollect b else s.idHunt b

/-- What `id_byte(b)` returns: `some ok` when `b` completes an ID field, ok the result of its CRC check
(40_common R177). -/
def State.idResult (b : Byte) (s : State) : Option Bool :=
  if s.search.amFound ∧ s.search.idCount + 1 = 6 then
    some (decide ((s.idCollect b).regs.crc = (s.idCollect b).search.idBuf.crc))
  else none

/-- The failure of a search: `seek_error` in a verify, else `rnf`, and the command ends (40_common R178). -/
def State.searchFail (s : State) : State :=
  if s.cmd.phase = .t1Verify then ({ s with latched.seekError := true }).finish
  else ({ s with latched.rnf := true }).finish

/-- `search_window(ie)`: an index edge is counted, and the fifth ends the search (40_common R178; log 12). -/
def State.searchWindow (ie : Bool) (s : State) : State :=
  if ie then
    let s := { s with search.indexCount := s.search.indexCount + 1 }
    if Config.searchRevs ≤ s.search.indexCount then s.searchFail else s
  else s

end Sys2Proof.Machine
end

