-- ==== Sys2Proof/Machine/Timing.lean ====
section
/-! DEFINITION. The timing engine: steps 1, 2 and 5 of a tick (60_exceptions section 4). -/

namespace Sys2Proof.Machine

/-- The tick-local values of 40_common R168; they are no state. -/
structure TickEvents where
  /-- `be`: the rotational byte pointer advanced in this tick -/
  be : Bool
  /-- `b`: the byte now under the head, meaningful only when `be` -/
  b : Byte
  /-- `ie`: the index pulse rose in this tick -/
  ie : Bool
  deriving DecidableEq, Repr

/-- `index_width_step(dt)`: the index pulse ends after its width (60_exceptions R352). -/
def State.indexWidthStep (dt : Time) (s : State) : State :=
  if s.pins.indexPulse then
    if Config.indexWidth ≤ s.timers.indexWidth + dt then
      { s with pins.indexPulse := false, timers.indexWidth := 0 }
    else { s with timers.indexWidth := s.timers.indexWidth + dt }
  else s

/-- `index_edge()` (60_exceptions R351). -/
def State.indexEdge (s : State) : State :=
  { s with pins.indexPulse := true, timers.indexWidth := 0, timers.indexEnc := 0 }

/-- The byte under the head: `MediumByte(current_track, side_select, rot_ptr)` (40_common R168). -/
def State.headByte (s : State) : Byte :=
  mediumByte s.medium s.head.currentTrack s.pins.sideSelect.toNat s.head.rotPtr

/-- `be`: the byte-assembly accumulator reaches a byte time in this tick (60_exceptions R350). -/
def State.byteEvent (dt : Time) (s : State) : Bool :=
  decide (Config.byteTime s.medium.density ≤ s.timers.rotAcc + dt)

/-- The rotation of `timing_step(dt)`: at a byte event the pointer advances and the accumulator keeps its remainder
(60_exceptions R350). -/
def State.rotate (dt : Time) (s : State) : State :=
  if s.byteEvent dt then
    { s with
      timers.rotAcc := s.timers.rotAcc + dt - Config.byteTime s.medium.density
      head.rotPtr := (s.head.rotPtr + 1) % Config.trackLen s.medium.density }
  else { s with timers.rotAcc := s.timers.rotAcc + dt }

/-- `ie`: the rotation of this tick wraps the pointer to 0 (60_exceptions R350). -/
def State.indexEvent (dt : Time) (s : State) : Bool :=
  s.byteEvent dt && decide ((s.rotate dt).head.rotPtr = 0)

/-- What `timing_step(dt)` returns; the byte is read after the advance (60_exceptions R350, 40_common R168). -/
def State.tickEvents (dt : Time) (s : State) : TickEvents :=
  { be := s.byteEvent dt
    b := if s.byteEvent dt then (s.rotate dt).headByte else 0x00
    ie := s.indexEvent dt }

/-- `timing_step(dt)`, step 1 of a tick: the index pulse ages, the index-encounter timer advances, the disk rotates, and
a wrap is an index edge (60_exceptions R350 to R353). -/
def State.timingStep (dt : Time) (s : State) : State :=
  let s := s.indexWidthStep dt
  let s := { s with timers.indexEnc := s.timers.indexEnc + dt }
  if s.indexEvent dt then (s.rotate dt).indexEdge else s.rotate dt

/-- `hlt_step(dt)`, step 2 of a tick: the HLT one-shot (60_exceptions R354). -/
def State.hltStep (dt : Time) (s : State) : State :=
  if s.pins.hld ∧ ¬ s.pins.hlt then
    if s.medium.hltDelay ≤ s.timers.hlt + dt then { s with pins.hlt := true, timers.hlt := 0 }
    else { s with timers.hlt := s.timers.hlt + dt }
  else s

/-- Step 3 of a tick: `tg43 <- (TR > 43)`, then `status_refresh()` (40_common R164). -/
def State.statusStep (s : State) : State :=
  ({ s with pins.tg43 := decide (43 < s.regs.tr.toNat) }).statusRefresh

/-- `hld_idle_step(dt)`, step 5 of a tick: the idle head is unloaded (60_exceptions R355). -/
def State.hldIdleStep (dt : Time) (s : State) : State :=
  if s.prog.commandDone then
    if s.pins.hld then
      if Config.hldIdle ≤ s.timers.hldIdle + dt then { s with pins.hld := false, timers.hldIdle := 0 }
      else { s with timers.hldIdle := s.timers.hldIdle + dt }
    else s
  else { s with timers.hldIdle := 0 }

end Sys2Proof.Machine
end

