-- ==== Sys2Proof/Machine/TypeI.lean ====
section
/-! DEFINITION. The Type I commands: RESTORE, SEEK, STEP, STEP-IN, STEP-OUT, and their phases (41_type1). -/

namespace Sys2Proof.Machine

/-! The command writes. -/

/-- RESTORE, written to port +0: direction out (41_type1 R200, R202). -/
def execRestore (h v : Bool) (r : BitVec 2) (s : State) : Host.Outcome State Fault Refusal :=
  .next (s.writeTypeI (encode (.restore h v r)) .restore (s.cmd.flags.withTypeI h v true r) false)

/-- The direction SEEK starts with: toward `DR`; unchanged when `DR = TR` (41_type1 R200). -/
def State.seekDirection (s : State) : Bool :=
  if s.regs.tr < s.regs.dr then true else if s.regs.dr < s.regs.tr then false else s.pins.direction

/-- SEEK, written to port +0 (41_type1 R200, R203). -/
def execSeek (h v : Bool) (r : BitVec 2) (s : State) : Host.Outcome State Fault Refusal :=
  .next (s.writeTypeI (encode (.seek h v r)) .seek (s.cmd.flags.withTypeI h v true r) s.seekDirection)

/-- STEP, written to port +0: direction unchanged (41_type1 R200, R204). -/
def execStep (u h v : Bool) (r : BitVec 2) (s : State) : Host.Outcome State Fault Refusal :=
  .next (s.writeTypeI (encode (.step u h v r)) .step (s.cmd.flags.withTypeI h v u r) s.pins.direction)

/-- STEP-IN, written to port +0: direction in (41_type1 R200, R205). -/
def execStepIn (u h v : Bool) (r : BitVec 2) (s : State) : Host.Outcome State Fault Refusal :=
  .next (s.writeTypeI (encode (.stepIn u h v r)) .stepIn (s.cmd.flags.withTypeI h v u r) true)

/-- STEP-OUT, written to port +0: direction out (41_type1 R200, R206). -/
def execStepOut (u h v : Bool) (r : BitVec 2) (s : State) : Host.Outcome State Fault Refusal :=
  .next (s.writeTypeI (encode (.stepOut u h v r)) .stepOut (s.cmd.flags.withTypeI h v u r) false)

/-! The phases. -/

/-- `phys_step(d)`: the head moves one cylinder, clamped to the medium (41_type1 R207). -/
def State.physStep (d : Bool) (s : State) : State :=
  if d then
    if s.head.currentTrack + 1 < s.medium.geom.cyl then
      { s with head.currentTrack := s.head.currentTrack + 1 }
    else s
  else if 0 < s.head.currentTrack then { s with head.currentTrack := s.head.currentTrack - 1 }
  else s

/-- `action_done()`: the stepping phase ends (41_type1 R208). -/
def State.actionDone (s : State) : State :=
  let s := { s with prog.commandActionDone := true }
  if s.cmd.flags.verify then { s.hldSet with timers.settle := 0, cmd.phase := .t1Settle }
  else s.finish

/-- The step interval of the command in flight (30_encoding R124). -/
def State.stepInterval (s : State) : Time := Config.stepInterval s.cmd.flags.rate

/-- `T1_STEP[RESTORE]`: one step toward track 0, if the head is not there, when the step interval has passed
(41_type1 R202). -/
def State.restoreStepping (dt : Time) (s : State) : State :=
  if s.head.currentTrack = 0 then s
  else if s.stepInterval ≤ s.timers.step + dt then State.physStep false { s with timers.step := 0 }
  else { s with timers.step := s.timers.step + dt }

/-- `T1_STEP[RESTORE]` (41_type1 R202). -/
def State.restorePhase (dt : Time) (s : State) : State :=
  let s := s.restoreStepping dt
  if s.head.currentTrack = 0 then State.actionDone { s with regs.tr := 0x00 } else s

/-- `T1_STEP[SEEK]`: one step toward `DR` when the step interval has passed; `TR` counts and the head follows, clamped
(41_type1 R203). -/
def State.seekStepping (dt : Time) (s : State) : State :=
  if s.regs.tr = s.regs.dr then s
  else if s.stepInterval ≤ s.timers.step + dt then
    if s.regs.tr < s.regs.dr then
      State.physStep true { s with timers.step := 0, pins.direction := true, regs.tr := s.regs.tr + 1 }
    else State.physStep false { s with timers.step := 0, pins.direction := false, regs.tr := s.regs.tr - 1 }
  else { s with timers.step := s.timers.step + dt }

/-- `T1_STEP[SEEK]` (41_type1 R203). -/
def State.seekPhase (dt : Time) (s : State) : State :=
  let s := s.seekStepping dt
  if s.regs.tr = s.regs.dr then s.actionDone else s

/-- `clamped` of `step_once`: the head is at the end it would step past (41_type1 R204). -/
def State.clamped (s : State) : Bool :=
  (!s.pins.direction && decide (s.head.currentTrack = 0))
    || (s.pins.direction && decide (s.head.currentTrack = s.medium.geom.cyl - 1))

/-- The `TR` update of `step_once`, modulo 256, when `f_u = 1` (41_type1 R204). -/
def State.trackUpdate (s : State) : State :=
  if s.cmd.flags.trackUpdate then
    { s with regs.tr := if s.pins.direction then s.regs.tr + 1 else s.regs.tr - 1 }
  else s

/-- `step_once(dt)` (41_type1 R204). -/
def State.stepOnce (dt : Time) (s : State) : State :=
  if s.stepInterval ≤ s.timers.step + dt then
    let s := { s with timers.step := 0 }
    if s.clamped then s.actionDone
    else ((s.physStep s.pins.direction).trackUpdate).actionDone
  else { s with timers.step := s.timers.step + dt }

/-- `T1_STEP[STEP]` (41_type1 R204). -/
def State.stepPhase (dt : Time) (s : State) : State := s.stepOnce dt

/-- `T1_STEP[STEP_IN]` (41_type1 R205). -/
def State.stepInPhase (dt : Time) (s : State) : State := s.stepOnce dt

/-- `T1_STEP[STEP_OUT]` (41_type1 R206). -/
def State.stepOutPhase (dt : Time) (s : State) : State := s.stepOnce dt

/-- `T1_SETTLE`: the head-settling wait (41_type1 R209). -/
def State.settlePhase (dt : Time) (s : State) : State :=
  if Config.settle ≤ s.timers.settle + dt then
    { s with timers.settle := 0, prog.headSettlingDone := true, cmd.phase := .t1WaitHlt }
  else { s with timers.settle := s.timers.settle + dt }

/-- `T1_WAIT_HLT` (41_type1 R210). -/
def State.verifyGate (s : State) : State :=
  if s.pins.hlt then { s.searchStart with cmd.phase := .t1Verify } else s

/-- `T1_VERIFY`: look for an ID field whose track byte is `TR` (41_type1 R211). -/
def State.verifyPhase (e : TickEvents) (s : State) : State :=
  if e.be then
    let t := s.idByte e.b
    match s.idResult e.b with
    | some ok =>
      if t.search.idBuf.track = t.regs.tr then
        if ok then t.finish else State.searchWindow e.ie { t with latched.crcError := true }
      else t.searchWindow e.ie
    | none => t.searchWindow e.ie
  else s.searchWindow e.ie

end Sys2Proof.Machine
end

