-- ==== Sys2Proof/Machine/TypeII.lean ====
section
/-! DEFINITION. The Type II commands: READ SECTOR and WRITE SECTOR, their phases, and the E-delay and HLT gate they share
with Type III (42_type2). -/

namespace Sys2Proof.Machine

/-! The command writes. -/

/-- READ SECTOR, written to port +0 (42_type2 R240, R249). -/
def execReadSector (m b e u x0 : Bool) (s : State) : Host.Outcome State Fault Refusal :=
  .next (s.writeTypeIIorIII (encode (.readSector m b e u x0)) .readSector (s.cmd.flags.withReadSector m b e u))

/-- WRITE SECTOR, written to port +0 (42_type2 R240, R254). -/
def execWriteSector (m b e u a0 : Bool) (s : State) : Host.Outcome State Fault Refusal :=
  .next
    (s.writeTypeIIorIII (encode (.writeSector m b e u a0)) .writeSector (s.cmd.flags.withWriteSector m b e u a0))

/-! The start shared with Type III. -/

/-- `X_EDELAY` (42_type2 R241). -/
def State.eDelayPhase (dt : Time) (s : State) : State :=
  if Config.eDelay ≤ s.timers.eDelay + dt then
    { s with timers.eDelay := 0, prog.eDelayDone := true, cmd.phase := .xWaitHlt }
  else { s with timers.eDelay := s.timers.eDelay + dt }

/-- The first data phase of the command `n`, entered at the HLT gate (42_type2 R242). -/
def State.startDataPhase (n : CmdName) (s : State) : State :=
  match n with
  | .readSector | .writeSector => { s.setImageOffset.searchStart with cmd.phase := .secSearchId }
  | .readAddress => { s.searchStart with cmd.phase := .raSearch }
  | .readTrack => { s with search.xferCount := 0, cmd.phase := .rtXfer }
  | .writeTrack => { s with search.xferCount := 0, pins.drq := true, cmd.phase := .wtXfer }
  | .restore | .seek | .step | .stepIn | .stepOut | .forceInterrupt => s

/-- `X_WAIT_HLT`, the HLT gate of the command `n` (42_type2 R242). -/
def State.hltGate (n : CmdName) (s : State) : State :=
  if s.pins.hlt then
    State.startDataPhase n { s with prog.startByteSet := true, head.startPtr := s.head.rotPtr }
  else s

/-! The ID search of READ SECTOR and WRITE SECTOR. -/

/-- The ID field just collected is the target's: track, side, sector and length all match (42_type2 R244). -/
def State.idMatches (s : State) : Bool :=
  decide (s.search.idBuf.track = s.regs.tr)
    && decide (s.search.idBuf.side = BitVec.ofNat 8 s.pins.sideSelect.toNat)
    && decide (s.search.idBuf.sector = s.regs.sr)
    && decide (seclen s.search.idBuf.lengthCode s.cmd.flags.lengthSwap = s.medium.geom.slen)

/-- The phase after a good match: the data-mark search of READ SECTOR, the gap of WRITE SECTOR with the first byte
requested (42_type2 R244). -/
def State.idMatched (n : CmdName) (s : State) : State :=
  if n = .readSector then
    { s with search := { s.search.detReset with damCount := 0 }, cmd.phase := .rsSearchDam }
  else { s with search.wcount := 0, pins.drq := true, cmd.phase := .wsGap }

/-- `SEC_SEARCH_ID` of the command `n` (42_type2 R244). -/
def State.searchIdPhase (n : CmdName) (e : TickEvents) (s : State) : State :=
  if e.be then
    let t := s.idByte e.b
    match s.idResult e.b with
    | some ok =>
      if t.idMatches then
        if ok then t.idMatched n else State.searchWindow e.ie { t with latched.crcError := true }
      else t.searchWindow e.ie
    | none => t.searchWindow e.ie
  else s.searchWindow e.ie

/-- `next_record()`: the next sector of a multiple-record command, or the end (42_type2 R248). -/
def State.nextRecord (s : State) : State :=
  if s.cmd.flags.multi ∧ s.regs.sr.toNat + 1 ≤ s.medium.geom.spt then
    let s := { s with regs.sr := s.regs.sr + 1 }
    { s.setImageOffset.searchStart with cmd.phase := .secSearchId }
  else s.finish

/-! READ SECTOR. -/

/-- `RS_SEARCH_DAM`: look for the data address mark, in a window of `P_DAM_WINDOW` bytes (42_type2 R245). -/
def State.searchDamPhase (e : TickEvents) (s : State) : State :=
  if e.be then
    let s := { s with search.damCount := s.search.damCount + 1 }
    match s.detected e.b [0xFB, 0xF8] with
    | some mark =>
      let t := (s.detect e.b [0xFB, 0xF8]).crcMark mark
      { t with latched.recordType := decide (mark = 0xF8), search.xferCount := 0, cmd.phase := .rsData }
    | none =>
      let t := s.detect e.b [0xFB, 0xF8]
      if Config.damWindow t.medium.density ≤ t.search.damCount then
        { t with search := { t.search.detReset with amFound := false }, cmd.phase := .secSearchId }
      else t.searchWindow e.ie
  else s.searchWindow e.ie

/-- `RS_DATA`: one data byte to the host (42_type2 R246). -/
def State.readDataPhase (e : TickEvents) (s : State) : State :=
  if e.be then
    let s := (s.deliver e.b).crcByte e.b
    let s := { s with search.xferCount := s.search.xferCount + 1 }
    if s.search.xferCount = s.medium.geom.slen then { s with search.crcCount := 0, cmd.phase := .rsCrc } else s
  else s

/-- One CRC byte read after a data field: `crc_buf[crc_count] <- b` (42_type2 R247). -/
def State.crcBufByte (b : Byte) (s : State) : State :=
  let s := { s with regs.dsr := b }
  if s.search.crcCount = 0 then { s with search.crcHi := b, search.crcCount := s.search.crcCount + 1 }
  else if s.search.crcCount = 1 then { s with search.crcLo := b, search.crcCount := s.search.crcCount + 1 }
  else { s with search.crcCount := s.search.crcCount + 1 }

/-- `RS_CRC`: the two data-CRC bytes, and the check (42_type2 R247). -/
def State.readCrcPhase (e : TickEvents) (s : State) : State :=
  if e.be then
    let s := s.crcBufByte e.b
    if s.search.crcCount = 2 then
      if s.regs.crc = crcOfBytes s.search.crcHi s.search.crcLo then s.nextRecord
      else State.finish { s with latched.crcError := true }
    else s
  else s

/-! WRITE SECTOR: the full timing and no effect on the medium (42_type2 section 4, 20_memory R93). -/

/-- `WS_GAP`: the bytes of gap 2, in which the host supplies the first byte or loses the command (42_type2 R250). -/
def State.writeGapPhase (e : TickEvents) (s : State) : State :=
  if e.be then
    let s := { s with search.wcount := s.search.wcount + 1 }
    if s.search.wcount = Config.writeGap s.medium.density then
      if s.pins.drq then State.finish { s with latched.lostData := true, pins.drq := false }
      else { s with search.wcount := 0, cmd.phase := .wsMark }
    else s
  else s

/-- `WS_MARK`: the sync field and data mark, shifted out to `DSR` only (42_type2 R251). -/
def State.writeMarkPhase (e : TickEvents) (s : State) : State :=
  if e.be then
    let mark := dataMark s.cmd.flags.a0
    let s :=
      { s with
        regs.dsr := (syncBytes s.medium.density mark).getD s.search.wcount 0x00
        search.wcount := s.search.wcount + 1 }
    if s.search.wcount = Config.writeMark s.medium.density then
      { s.crcMark mark with search.xferCount := 0, cmd.phase := .wsData }
    else s
  else s

/-- `WS_DATA`: one data byte from the host (42_type2 R252). -/
def State.writeDataPhase (e : TickEvents) (s : State) : State :=
  if e.be then
    let v := s.takenByte
    let s := s.take.crcByte v
    let s := { s with search.xferCount := s.search.xferCount + 1 }
    if s.search.xferCount < s.medium.geom.slen then { s with pins.drq := true }
    else { s with pins.drq := false, search.crcCount := 0, cmd.phase := .wsCrc }
  else s

/-- `WS_CRC`: the two CRC bytes, shifted out to `DSR` only, then the end of the record (42_type2 R253). -/
def State.writeCrcPhase (e : TickEvents) (s : State) : State :=
  if e.be then
    let s := { s with search.crcCount := s.search.crcCount + 1 }
    let s := { s with regs.dsr := if s.search.crcCount = 1 then crcHiByte s.regs.crc else crcLoByte s.regs.crc }
    if s.search.crcCount = 2 then s.nextRecord else s
  else s

end Sys2Proof.Machine
end

