-- ==== Sys2Proof/Machine/TypeIII.lean ====
section
/-! DEFINITION. The Type III commands: READ ADDRESS, READ TRACK and WRITE TRACK, and their phases (43_type3). -/

namespace Sys2Proof.Machine

/-! The command writes. -/

/-- READ ADDRESS, written to port +0 (42_type2 R240, 43_type3 R280). -/
def execReadAddress (x3 e u x0 : Bool) (s : State) : Host.Outcome State Fault Refusal :=
  .next (s.writeTypeIIorIII (encode (.readAddress x3 e u x0)) .readAddress (s.cmd.flags.withTypeIII e u))

/-- READ TRACK, written to port +0 (42_type2 R240, 43_type3 R283). -/
def execReadTrack (x3 e u x0 : Bool) (s : State) : Host.Outcome State Fault Refusal :=
  .next (s.writeTypeIIorIII (encode (.readTrack x3 e u x0)) .readTrack (s.cmd.flags.withTypeIII e u))

/-- WRITE TRACK, written to port +0 (42_type2 R240, 43_type3 R287). -/
def execWriteTrack (x3 e u x0 : Bool) (s : State) : Host.Outcome State Fault Refusal :=
  .next (s.writeTypeIIorIII (encode (.writeTrack x3 e u x0)) .writeTrack (s.cmd.flags.withTypeIII e u))

/-! The phases. -/

/-- `RA_SEARCH`: look for the next ID address mark (43_type3 R281). -/
def State.readAddressSearch (e : TickEvents) (s : State) : State :=
  if e.be then
    match s.detected e.b [0xFE] with
    | some _ => { (s.detect e.b [0xFE]).crcMark 0xFE with search.xferCount := 0, cmd.phase := .raXfer }
    | none => (s.detect e.b [0xFE]).searchWindow e.ie
  else s.searchWindow e.ie

/-- One byte of `RA_XFER`: delivered, put in the ID buffer, the first four in the CRC (43_type3 R282). -/
def State.readAddressByte (b : Byte) (s : State) : State :=
  let s := s.deliver b
  { s with
    search.idBuf := s.search.idBuf.set s.search.xferCount b
    search.xferCount := s.search.xferCount + 1
    regs.crc := if s.search.xferCount + 1 ≤ 4 then crcStep s.regs.crc b else s.regs.crc }

/-- The end of READ ADDRESS: the CRC check, and the ID's track byte to `SR` (43_type3 R282, decision D26). -/
def State.readAddressEnd (s : State) : State :=
  State.finish
    { s with
      latched.crcError := s.latched.crcError || decide (s.regs.crc ≠ s.search.idBuf.crc)
      regs.sr := s.search.idBuf.track }

/-- `RA_XFER`: the six ID bytes to the host (43_type3 R282). -/
def State.readAddressXfer (e : TickEvents) (s : State) : State :=
  if e.be then
    let s := s.readAddressByte e.b
    if s.search.xferCount = 6 then s.readAddressEnd else s
  else s

/-- `RT_XFER`: one revolution of bytes to the host (43_type3 R284). -/
def State.readTrackXfer (e : TickEvents) (s : State) : State :=
  if e.be then
    let s := s.deliver e.b
    let s := { s with search.xferCount := s.search.xferCount + 1 }
    if s.search.xferCount = Config.trackLen s.medium.density then s.finish else s
  else s

/-- `WT_XFER`: one revolution of bytes from the host, none of them written to the medium (43_type3 R286). -/
def State.writeTrackXfer (e : TickEvents) (s : State) : State :=
  if e.be then
    if s.search.xferCount = 0 ∧ s.pins.drq then
      State.finish { s with latched.lostData := true, pins.drq := false }
    else
      let s := s.take
      let s := { s with search.xferCount := s.search.xferCount + 1 }
      if s.search.xferCount < Config.trackLen s.medium.density then { s with pins.drq := true }
      else State.finish { s with pins.drq := false }
  else s

end Sys2Proof.Machine
end

