-- ==== Sys2Proof/Machine/TypeIV.lean ====
section
/-! DEFINITION. The Type IV command, FORCE INTERRUPT, and the READY conditions it arms (44_type4). -/

namespace Sys2Proof.Machine

/-- The part of `force_interrupt(v)` that depends on whether a command is in flight (44_type4 R310): in flight, it is
terminated by nibble 0 or I3; idle, the context and the layout become FORCE INTERRUPT's. -/
def State.forceOnCommand (i3 : Bool) (s : State) : State :=
  if s.prog.commandDone then
    { s with
      cmd.cmdType := some .IV
      cmd.cmdName := some .forceInterrupt
      statusLayout := .typeI
      pins.drq := false }
  else if s.prog.terminateCommand ∨ i3 then s.terminate
  else s

/-- `force_interrupt(v)` with condition nibble `c` (44_type4 R310, R311). -/
def State.forceInterrupt (c : BitVec 4) (s : State) : State :=
  let s :=
    { s with
      regs.cr := encode (.forceInterrupt c)
      pins.intrq := false
      cmd.armed := Armed.ofNibble c
      prog.terminateCommand := decide (c = 0) }
  let s := s.forceOnCommand (c.getLsbD 3)
  { s with pins.intrq := s.pins.intrq || c.getLsbD 3, prog.terminateCommand := false }

/-- FORCE INTERRUPT, written to port +0, busy or not (44_type4 R310, 40_common R161). -/
def execForceInterrupt (c : BitVec 4) (s : State) : Host.Outcome State Fault Refusal :=
  .next (s.forceInterrupt c).statusRefresh

/-- `ready_conditions(old, new)` (44_type4 R315). -/
def State.readyConditions (old new : Bool) (s : State) : State :=
  if (old = false ∧ new = true ∧ s.cmd.armed.i0) ∨ (old = true ∧ new = false ∧ s.cmd.armed.i1) then s.fireCondition
  else s

/-- `set_ready(level)` (40_common R153). -/
def State.setReady (level : Bool) (s : State) : State :=
  (State.readyConditions s.pins.ready level { s with pins.ready := level }).statusRefresh

end Sys2Proof.Machine
end

