-- ==== Sys2Proof/Machine/Dispatch.lean ====
section
/-! DEFINITION. `exec`: the meaning of each command byte written to port +0 (40_common R157). -/

namespace Sys2Proof.Machine

def exec (i : Instr) (s : State) : Host.Outcome State Fault Refusal :=
  match i with
  | .restore h v r => Sys2Proof.Machine.execRestore h v r s
  | .seek h v r => Sys2Proof.Machine.execSeek h v r s
  | .step u h v r => Sys2Proof.Machine.execStep u h v r s
  | .stepIn u h v r => Sys2Proof.Machine.execStepIn u h v r s
  | .stepOut u h v r => Sys2Proof.Machine.execStepOut u h v r s
  | .readSector m b e u x0 => Sys2Proof.Machine.execReadSector m b e u x0 s
  | .writeSector m b e u a0 => Sys2Proof.Machine.execWriteSector m b e u a0 s
  | .readAddress x3 e u x0 => Sys2Proof.Machine.execReadAddress x3 e u x0 s
  | .readTrack x3 e u x0 => Sys2Proof.Machine.execReadTrack x3 e u x0 s
  | .writeTrack x3 e u x0 => Sys2Proof.Machine.execWriteTrack x3 e u x0 s
  | .forceInterrupt c => Sys2Proof.Machine.execForceInterrupt c s

end Sys2Proof.Machine
end

