-- ==== Sys2Proof/Machine/Ports.lean ====
section
/-! DEFINITION. The port space: the reads, and the writes other than the command port (20_memory R71 to R81). -/

namespace Sys2Proof.Machine

/-- The command last accepted satisfies `p`. -/
def State.lastCommand (p : CmdName → Bool) (s : State) : Bool :=
  match s.cmd.cmdName with
  | some n => p n
  | none => false

/-- The byte `read(port)` returns (20_memory R71, R72, R74 to R76, R79 to R81). -/
def State.portByte (port : Nat) (s : State) : Byte :=
  match port with
  | 0 => s.status
  | 1 => s.regs.tr
  | 2 => s.regs.sr
  | 3 => s.regs.dr
  | 5 => Config.auxStatusByte s.auxReads
  | _ => 0x00

/-- The side effect of `read(port)`: port +0 clears `intrq` (R72), port +3 clears `drq` after a read-type command
(R76), port +5 draws its free byte (R80); the rest have none. -/
def State.portRead (port : Nat) (s : State) : State :=
  match port with
  | 0 => { s.statusRefresh with pins.intrq := false }
  | 3 => if s.pins.drq ∧ s.lastCommand CmdName.readType then { s with pins.drq := false } else s
  | 5 => { s with auxReads := s.auxReads + 1 }
  | _ => s

/-- `read(port)`: the value to the caller, the side effect, and `status_refresh()` (40_common R151). -/
def State.readPort (port : Nat) (s : State) : State :=
  ({ s.portRead port with reply := .byte (s.portByte port) }).statusRefresh

/-- The effect of `write(port, v)` for a port other than +0 (20_memory R74, R75, R77, R78, R80, R81). -/
def State.portWrite (port : Nat) (v : Byte) (s : State) : State :=
  match port with
  | 1 => { s with regs.tr := v }
  | 2 => { s with regs.sr := v }
  | 3 =>
    if s.pins.drq ∧ s.lastCommand CmdName.writeType then { s with regs.dr := v, pins.drq := false }
    else { s with regs.dr := v }
  | 4 => { s with regs.latch := v, pins.sideSelect := v.getLsbD 0 }
  | _ => s

/-- `write(port, v)` for a port other than +0, and `status_refresh()` (40_common R151). -/
def State.writePort (port : Nat) (v : Byte) (s : State) : State := (s.portWrite port v).statusRefresh

end Sys2Proof.Machine
end

