-- ==== Sys2Proof/Machine/Reset.lean ====
section
/-! DEFINITION. The entry point `reset` (70_reset R380 to R382, 40_common R155). -/

namespace Sys2Proof.Machine

/-- The constants of the state that the inputs of `reset` fix (70_reset R380). -/
def Medium.ofSetup (c : Setup) : Medium :=
  { density := c.density, hltDelay := c.hltDelay, geom := c.geom, image := Memory.ofBytes c.image }

/-- Every piece of state at its value of 70_reset R381, with the medium, the head position and the READY level of the
call, and `STR` refreshed (R382). The model's own fields are no state of the block: the pending calls, the reply and the
count of port +5 reads stay (log 15). -/
def State.resetWith (c : Setup) (s : State) : State :=
  State.statusRefresh
    { State.reset with
      pins.ready := c.ready
      head.currentTrack := c.initialTrack
      medium := Medium.ofSetup c
      calls := s.calls
      reply := s.reply
      auxReads := s.auxReads }

/-- `reset(config, medium, k, r)`: refused outside the bounds of 20_memory R101 (60_exceptions R338), or with
`P_HLT_DELAY_US` outside its range (log 9); else the reset state. -/
def State.resetCall (c : Setup) (s : State) : Host.Outcome State Fault Refusal :=
  if c.mediumWf = false then .refused .badMedium
  else if Config.hltDelayOk c.hltDelay = false then .refused .badHltDelay
  else .next (s.resetWith c)

end Sys2Proof.Machine
end

