-- ==== Sys2Proof/Machine/Tick.lean ====
section
/-! DEFINITION. One tick: the phase handlers and the five steps of `advance(dt)` (40_common section 3). -/

namespace Sys2Proof.Machine

/-- The commands whose state machine has the phase, from the groups of 10_state R45 and the handler table of
40_common R167. -/
def Phase.handles (p : Phase) (n : CmdName) : Bool :=
  match p with
  | .idle => false
  | .t1Step | .t1Settle | .t1WaitHlt | .t1Verify => decide (n.type = .I)
  | .xEDelay | .xWaitHlt => decide (n.type = .II ∨ n.type = .III)
  | .secSearchId => decide (n.type = .II)
  | .rsSearchDam | .rsData | .rsCrc => decide (n = .readSector)
  | .wsGap | .wsMark | .wsData | .wsCrc => decide (n = .writeSector)
  | .raSearch | .raXfer => decide (n = .readAddress)
  | .rtXfer => decide (n = .readTrack)
  | .wtXfer => decide (n = .writeTrack)

/-- The phase current has a handler for the command in flight (40_common R167). -/
def State.hasHandler (s : State) : Bool :=
  match s.cmd.cmdName with
  | some n => s.cmd.phase.handles n
  | none => false

/-- `T1_STEP`, by command (40_common R167). -/
def State.t1StepPhase (n : CmdName) (dt : Time) (s : State) : State :=
  match n with
  | .restore => s.restorePhase dt
  | .seek => s.seekPhase dt
  | .step => s.stepPhase dt
  | .stepIn => s.stepInPhase dt
  | .stepOut => s.stepOutPhase dt
  | .readSector | .writeSector | .readAddress | .readTrack | .writeTrack | .forceInterrupt => s

/-- The handler of the phase current, for the command `n` (40_common R167). -/
def State.handler (n : CmdName) (dt : Time) (e : TickEvents) (s : State) : State :=
  match s.cmd.phase with
  | .idle => s
  | .t1Step => s.t1StepPhase n dt
  | .t1Settle => s.settlePhase dt
  | .t1WaitHlt => s.verifyGate
  | .t1Verify => s.verifyPhase e
  | .xEDelay => s.eDelayPhase dt
  | .xWaitHlt => s.hltGate n
  | .secSearchId => s.searchIdPhase n e
  | .rsSearchDam => s.searchDamPhase e
  | .rsData => s.readDataPhase e
  | .rsCrc => s.readCrcPhase e
  | .wsGap => s.writeGapPhase e
  | .wsMark => s.writeMarkPhase e
  | .wsData => s.writeDataPhase e
  | .wsCrc => s.writeCrcPhase e
  | .raSearch => s.readAddressSearch e
  | .raXfer => s.readAddressXfer e
  | .rtXfer => s.readTrackXfer e
  | .wtXfer => s.writeTrackXfer e

/-- `command_step`, step 4 of a tick: the FORCE INTERRUPT index condition first, and else the phase handler of a
command in flight (40_common R165, 44_type4 R314). -/
def State.commandStep (dt : Time) (e : TickEvents) (s : State) : State :=
  if e.ie ∧ s.cmd.armed.i2 then s.fireCondition
  else if s.prog.commandDone then s
  else
    match s.cmd.cmdName with
    | some n => s.handler n dt e
    | none => s

/-- Steps 1 to 3 of a tick: rotation and index pulse, HLT, status (40_common R152, R162 to R164). -/
def State.tickHead (dt : Time) (s : State) : State :=
  ((State.timingStep dt { s with timers.master := s.timers.master + dt }).hltStep dt).statusStep

/-- One tick of `dt` microseconds: the five steps in their fixed order. Step 5 runs in every tick (40_common R152, R166,
60_exceptions R346, R355), the one in which I2 terminates a command too (DEDUCED, unsafe toward the words "from the next
tick" of 44_type4 R317, log 22). -/
def State.tick (dt : Time) (s : State) : State :=
  (((s.tickHead dt).commandStep dt (s.tickEvents dt)).hldIdleStep dt).statusRefresh

/-- `advance(dt)`: refused unless `0 < dt ≤ P_BYTE_TIME_US` (40_common R152, 60_exceptions R338). The two faults name
states no run reaches (logs 10 and 11). -/
def State.advance (dt : Time) (s : State) : Host.Outcome State Fault Refusal :=
  if Config.tickOk s.medium.density dt then
    if s.medium.geom.cyl ≤ s.head.currentTrack then .fault .offMedium
    else if s.prog.commandDone = false ∧ s.hasHandler = false then .fault .internalLogic
    else .next (s.tick dt)
  else .refused .tickOutOfRange

end Sys2Proof.Machine
end

