-- ==== Sys2Proof/Machine/Entry.lean ====
section
/-! DEFINITION. The entry points (40_common R150 to R155), and how the next one is taken from the pending calls. -/

namespace Sys2Proof.Machine

/-- One entry-point call (40_common R150). A write to port +0 runs the command the decoder reads from the byte
(20_memory R73, 40_common R157). -/
def runCall (c : Call) (s : State) : Host.Outcome State Fault Refusal :=
  match c with
  | .reset setup => s.resetCall setup
  | .write port v => if port = 0 then exec (decode v) s else .next (s.writePort port v)
  | .read port => .next (s.readPort port)
  | .advance dt => s.advance dt
  | .setReady level => .next (s.setReady level)
  | .pins => .next { s with reply := .levels s.pinLevels }

/-- The call is taken from the list, and what an earlier call returned is gone (logs 1, 2). -/
def State.takeCall (rest : List Call) (s : State) : State := { s with calls := rest, reply := .nothing }

/-- The next pending call is made; with none pending nothing happens, because the state "changes only through" the
entry points (40_common R150; log 1). -/
def nextCall (s : State) : Host.Outcome State Fault Refusal :=
  match s.calls with
  | [] => .next s
  | c :: rest => runCall c (s.takeCall rest)

/-- The command byte `w` is the next call (log 3). -/
def State.pushCommand (w : Nat) (s : State) : State :=
  { s with calls := .write 0 (BitVec.ofNat 8 w) :: s.calls }

end Sys2Proof.Machine
end

