-- ==== Sys2Proof/Machine/Step.lean ====
section
/-! DEFINITION. One step of the machine: one entry-point call (40_common R150). -/

namespace Sys2Proof.Machine

/-- One step: the next pending call (log 1). -/
def step (s : State) : Host.Outcome State Fault Refusal := nextCall s

/-- The state in which the next step runs the table word `w`: the block fetches nothing (20_memory R99), so the host's
`write(0, w)` is the next pending call (log 3). A command is one byte whatever `nbits` is (30_encoding R120). -/
def State.withFetchWord (s : State) (_nbits w : Nat) : State := s.pushCommand w

end Sys2Proof.Machine
end

