-- ==== Sys2Proof/Safety.lean ====
section
/-! DEFINITION. What a good state and a safe run are, in the terms the statements use. -/

namespace Sys2Proof.Machine

/-- The invariants of 10_state R54, item by item. -/
structure State.Coherent (s : State) : Prop where
  /-- 1. `STR[0] = 1` if and only if `command_done = 0` -/
  busyBit : s.regs.str.getLsbD 0 = true ↔ s.prog.commandDone = false
  /-- 2. `not_track00 = (current_track ≠ 0)` -/
  track00 : s.notTrack00 = true ↔ s.head.currentTrack ≠ 0
  /-- 3. 0 ≤ `rot_ptr` < `P_TRACK_LEN` -/
  rotPtr : s.head.rotPtr < Config.trackLen s.medium.density
  /-- 4. 0 ≤ `rot_acc` < `P_BYTE_TIME_US` -/
  rotAcc : 0 ≤ s.timers.rotAcc ∧ s.timers.rotAcc < Config.byteTime s.medium.density
  /-- 5. `phase = Idle` if and only if `command_done = 1` -/
  phaseIdle : s.cmd.phase = .idle ↔ s.prog.commandDone = true
  /-- 6. `terminate_command = 0` -/
  terminate : s.prog.terminateCommand = false
  /-- 7. `cmd_type = IV` implies `command_done = 1` -/
  typeIV : s.cmd.cmdType = some .IV → s.prog.commandDone = true

/-- What the rules assume of every state between calls: a medium that reset accepted (20_memory R101, 00_scope R8), an
image in canonical form, the head on the medium (10_state R50), `STR` in agreement with the pins and the latched bits
(40_common R156), a context of one command (10_state R43), and a handler for the phase of a command in flight
(40_common R167). -/
structure State.Sound (s : State) : Prop where
  geometry : s.medium.geom.wf s.medium.density = true
  hltDelay : Config.hltDelayOk s.medium.hltDelay = true
  image : s.medium.image.wf = true
  imageInside : ∀ c ∈ s.medium.image, c.1 < s.medium.geom.imageLen
  onMedium : s.head.currentTrack < s.medium.geom.cyl
  status : s.regs.str = s.status
  oneCommand : s.cmd.cmdType = s.cmd.cmdName.map CmdName.type
  handled : s.prog.commandDone = false → s.hasHandler = true

/-- No timer stands at or past its limit: "Every timer resets to 0 on the phase transition that starts it" and each but
`rot_acc` "is reset to 0 when it expires" (10_state R49). -/
structure State.TimersBounded (s : State) : Prop where
  master : 0 ≤ s.timers.master
  indexEnc : 0 ≤ s.timers.indexEnc
  indexWidth : 0 ≤ s.timers.indexWidth ∧ s.timers.indexWidth < Config.indexWidth
  step : 0 ≤ s.timers.step ∧ s.timers.step < s.stepInterval
  settle : 0 ≤ s.timers.settle ∧ s.timers.settle < Config.settle
  eDelay : 0 ≤ s.timers.eDelay ∧ s.timers.eDelay < Config.eDelay
  hldIdle : 0 ≤ s.timers.hldIdle ∧ s.timers.hldIdle < Config.hldIdle
  hlt : 0 ≤ s.timers.hlt ∧ s.timers.hlt < s.medium.hltDelay

/-- A search phase (40_common R178). -/
def Phase.searches : Phase → Bool
  | .t1Verify | .secSearchId | .rsSearchDam | .raSearch => true
  | .idle | .t1Step | .t1Settle | .t1WaitHlt | .xEDelay | .xWaitHlt | .rsData | .rsCrc | .wsGap | .wsMark | .wsData
  | .wsCrc | .raXfer | .rtXfer | .wtXfer => false

/-- What is left to do in the phase current: its counter is short of the count that ends the phase (42_type2 R245 to
R253, 43_type3 R282 to R286). -/
def State.PhaseUnfinished (s : State) : Prop :=
  match s.cmd.phase with
  | .rsSearchDam => s.search.damCount < Config.damWindow s.medium.density
  | .rsData | .wsData => s.search.xferCount < s.medium.geom.slen
  | .rsCrc | .wsCrc => s.search.crcCount < 2
  | .wsGap => s.search.wcount < Config.writeGap s.medium.density
  | .wsMark => s.search.wcount < Config.writeMark s.medium.density
  | .raXfer => s.search.xferCount < 6
  | .rtXfer | .wtXfer => s.search.xferCount < Config.trackLen s.medium.density
  | .idle | .t1Step | .t1Settle | .t1WaitHlt | .t1Verify | .xEDelay | .xWaitHlt | .secSearchId | .raSearch => True

/-- The counters stay in the ranges of 10_state R53, a search has index edges left (40_common R178), and the phase
current has something left to do. -/
structure State.CountersBounded (s : State) : Prop where
  sc : s.search.sc ≤ 3
  idCount : s.search.idCount ≤ 6
  collecting : s.search.amFound = true → s.search.idCount < 6
  window : s.cmd.phase.searches = true → s.search.indexCount < Config.searchRevs
  unfinished : s.PhaseUnfinished

/-- The rotation is exact: the total time since reset is a whole number of revolutions, the bytes of the current one,
and the remainder (60_exceptions R350). -/
def State.Spinning (s : State) : Prop :=
  ∃ revs : Nat,
    s.timers.master =
      ((revs * Config.trackLen s.medium.density + s.head.rotPtr : Nat) : Time) * Config.byteTime s.medium.density
        + s.timers.rotAcc

/-- The command `n` is in flight in phase `p`, and no armed index condition fires in this tick: step 4 of the tick runs
the handler of `p` (40_common R165, R167). -/
def State.InPhase (s : State) (n : CmdName) (p : Phase) (e : TickEvents) : Prop :=
  s.prog.commandDone = false ∧ s.cmd.cmdName = some n ∧ s.cmd.phase = p ∧ ¬ (e.ie = true ∧ s.cmd.armed.i2 = true)

/-- `n` ticks of `dt` as the pending calls (40_common R152). -/
def State.withTicks (s : State) (n : Nat) (dt : Time) : State :=
  { s with calls := List.replicate n (.advance dt) }

/-- The state with everything erased that no rule reads and no call returns: `CR`, `DSR`, `LATCH` (10_state R21, R25,
R31), `cmd_type` (DEDUCED, log 23), the record of I3 (44_type4 R316), the progress flags that only report (10_state R46), the diagnostic
timers (60_exceptions R353, R356), `start_ptr` and `image_offset` (10_state R51, R52). -/
def State.forgetRecords (s : State) : State :=
  { s with
    regs := { s.regs with cr := 0, dsr := 0, latch := 0 }
    cmd := { s.cmd with cmdType := none, armed := { s.cmd.armed with i3 := false } }
    prog :=
      { s.prog with commandActionDone := false, headSettlingDone := false, eDelayDone := false, startByteSet := false }
    timers := { s.timers with master := 0, indexEnc := 0 }
    head := { s.head with startPtr := 0, imageOffset := 0 } }

/-- A safe outcome: not a fault (40_common R182, "The block has no fault outcome"). -/
def safeOutcome (o : Host.Outcome State Fault Refusal) : Prop := ∀ f, o ≠ .fault f

end Sys2Proof.Machine
end

