-- ==== Sys2Proof/Certificates/Slice0/Obligations.lean ====
section
/-! DEFINITION. The statements for the provers. Each docstring names the rules of spec/ it rests on. -/

open Sys2Proof Sys2Proof.Machine

namespace Sys2Proof.Claims

/-- The 11 rows of 30_encoding R132: name, mask, match, count of byte values. -/
def opcodeClasses : List (CmdName × Byte × Byte × Nat) :=
  [ (.restore, 0xF0, 0x00, 16), (.seek, 0xF0, 0x10, 16), (.step, 0xE0, 0x20, 32), (.stepIn, 0xE0, 0x40, 32),
    (.stepOut, 0xE0, 0x60, 32), (.readSector, 0xE0, 0x80, 32), (.writeSector, 0xE0, 0xA0, 32),
    (.readAddress, 0xF0, 0xC0, 16), (.forceInterrupt, 0xF0, 0xD0, 16), (.readTrack, 0xF0, 0xE0, 16),
    (.writeTrack, 0xF0, 0xF0, 16) ]

/-- The latched bits all clear (40_common R158). -/
def noErrors : Latched :=
  { seekError := false, crcError := false, rnf := false, lostData := false, recordType := false }

/-- The progress flags of a command just taken (40_common R157, R158). -/
def freshProgress : Progress :=
  { commandActionDone := false, commandDone := false, headSettlingDone := false, eDelayDone := false,
    startByteSet := false, terminateCommand := false }

/-- A Type I command just taken, every field said: `h` the head-load flag, `f` the flags, `dir` the direction
(40_common R158, 41_type1 R200, R201). -/
def startedTypeI (i : Instr) (h : Bool) (f : CmdFlags) (dir : Bool) (s : State) : State :=
  State.statusRefresh
    { s with
      regs.cr := encode i
      statusLayout := .typeI
      pins :=
        { s.pins with
          intrq := false, drq := false, direction := dir, hld := h
          hlt := if h then s.pins.hld && s.pins.hlt else s.pins.hlt }
      cmd := { s.cmd with cmdType := some .I, cmdName := some (commandName i), flags := f, phase := .t1Step }
      prog := freshProgress
      latched := noErrors
      timers := { s.timers with step := 0, hlt := if h && !s.pins.hld then 0 else s.timers.hlt } }

/-- The flags a Type I command decodes; the flags of the other types keep their values (30_encoding R124, R125;
10_state R44). -/
def typeIFlags (f : CmdFlags) (h v u : Bool) (r : BitVec 2) : CmdFlags :=
  { rate := r, verify := v, headLoad := h, trackUpdate := u, a0 := f.a0, updateSide := f.updateSide,
    eDelay := f.eDelay, lengthSwap := f.lengthSwap, multi := f.multi }

/-- A Type II or III command just taken with the drive ready, every field said (40_common R158, 42_type2 R240). -/
def startedTypeIIorIII (i : Instr) (f : CmdFlags) (s : State) : State :=
  State.statusRefresh
    { s with
      regs.cr := encode i
      statusLayout := .typeIIandIII
      pins :=
        { s.pins with
          intrq := false, drq := false, sideSelect := f.updateSide, hld := true, hlt := s.pins.hld && s.pins.hlt }
      cmd :=
        { s.cmd with
          cmdType := some (commandName i).type
          cmdName := some (commandName i)
          flags := f
          phase := if f.eDelay then .xEDelay else .xWaitHlt }
      prog := freshProgress
      latched := noErrors
      timers := { s.timers with eDelay := 0, hlt := if s.pins.hld then s.timers.hlt else 0 } }

/-- A Type II or III command aborted because the drive is not ready, every field said (40_common R158, R159). -/
def abortedNotReady (i : Instr) (f : CmdFlags) (s : State) : State :=
  State.statusRefresh
    { s with
      regs.cr := encode i
      statusLayout := .typeIIandIII
      pins := { s.pins with intrq := true, drq := false }
      cmd := { s.cmd with cmdType := some (commandName i).type, cmdName := some (commandName i), flags := f }
      prog := { freshProgress with commandDone := true }
      latched := noErrors }

/-- `f` holds the Type II flags m, b, E, U, and the Type I flags of `g` (30_encoding R127, 10_state R44). -/
def typeIIFlags (f g : CmdFlags) (m b e u : Bool) : Prop :=
  f.multi = m ∧ f.lengthSwap = b ∧ f.eDelay = e ∧ f.updateSide = u
    ∧ f.rate = g.rate ∧ f.verify = g.verify ∧ f.headLoad = g.headLoad ∧ f.trackUpdate = g.trackUpdate

/-- `f` holds the Type III flags E, U, and the Type I flags of `g` (30_encoding R128, 10_state R44). -/
def typeIIIFlags (f g : CmdFlags) (e u : Bool) : Prop :=
  f.eDelay = e ∧ f.updateSide = u
    ∧ f.rate = g.rate ∧ f.verify = g.verify ∧ f.headLoad = g.headLoad ∧ f.trackUpdate = g.trackUpdate

/-- The byte time of each density, in microseconds (00_scope R8). -/
def byteMicros : Density → Time
  | .mfm => 80 / 3
  | .fm => 160 / 3

/-- The bytes of one revolution (00_scope R8). -/
def revolutionBytes : Density → Nat
  | .mfm => 7500
  | .fm => 3750

/-- What a field's CRC covers before its body (20_memory R91). -/
def crcPrefix (d : Density) (mark : Byte) : List Byte :=
  match d with
  | .mfm => [0xA1, 0xA1, 0xA1, mark]
  | .fm => [mark]

/-- A sync field and its mark (20_memory R84, R85, 42_type2 R251). -/
def markField (d : Density) (mark : Byte) : List Byte :=
  match d with
  | .mfm => List.replicate 12 0x00 ++ [0xA1, 0xA1, 0xA1, mark]
  | .fm => List.replicate 6 0x00 ++ [mark]

/-- `image_offset` after `set_image_offset()` (42_type2 R243, 20_memory R89). -/
def targetOffset (s : State) : Nat :=
  if s.head.currentTrack < s.medium.geom.cyl ∧ s.pins.sideSelect.toNat < s.medium.geom.sides
      ∧ 1 ≤ s.regs.sr.toNat ∧ s.regs.sr.toNat ≤ s.medium.geom.spt then
    ((s.head.currentTrack * s.medium.geom.sides + s.pins.sideSelect.toNat) * s.medium.geom.spt
      + (s.regs.sr.toNat - 1)) * s.medium.geom.slen
  else s.head.imageOffset

/-- A search just started (40_common R174). -/
def freshSearch (q : Search) : Search :=
  { q with zr := 0, sc := 0, amFound := false, idCount := 0, indexCount := 0 }

/-- The step interval of each rate code, in microseconds (30_encoding R124). -/
def stepMicros (r : BitVec 2) : Time :=
  if r = 0 then 6000 else if r = 1 then 12000 else if r = 2 then 20000 else 30000

/-- The record of sector r stands at `base` on the track, byte by byte (20_memory R84, R85, R87 to R89): `pre` is what the
CRCs cover before a mark, `sync` the bytes before a mark, `gap` the gap byte, `gaps` the lengths of gaps 2 and 3; the
length code N is the one with `G_SLEN = 128 × 2^N`. -/
def recordStands (m : Medium) (t s r base : Nat) (pre sync : List Byte) (gap : Byte) (gaps : Nat × Nat) : Prop :=
  let byte (k : Nat) : Byte := mediumByte m t s (base + k)
  let id := sync.length
  let data := id + 7 + gaps.1 + sync.length
  let offset := ((t * m.geom.sides + s) * m.geom.spt + (r - 1)) * m.geom.slen
  let stored := (List.range m.geom.slen).map fun i => m.image.read (offset + i)
  let idCrc := crc16 (pre ++ [0xFE, byte (id + 1), byte (id + 2), byte (id + 3), byte (id + 4)])
  let dataCrc := crc16 (pre ++ [0xFB] ++ stored)
  (∀ i, i < sync.length → byte i = sync.getD i 0)
    ∧ byte id = 0xFE
    ∧ byte (id + 1) = BitVec.ofNat 8 t ∧ byte (id + 2) = BitVec.ofNat 8 s ∧ byte (id + 3) = BitVec.ofNat 8 r
    ∧ (∃ n, byte (id + 4) = BitVec.ofNat 8 n ∧ n < 4 ∧ m.geom.slen = 128 * 2 ^ n)
    ∧ byte (id + 5) = idCrc.extractLsb' 8 8 ∧ byte (id + 6) = idCrc.extractLsb' 0 8
    ∧ (∀ i, i < gaps.1 → byte (id + 7 + i) = gap)
    ∧ (∀ i, i < sync.length → byte (id + 7 + gaps.1 + i) = sync.getD i 0)
    ∧ byte data = 0xFB
    ∧ (∀ i, i < m.geom.slen → byte (data + 1 + i) = m.image.read (offset + i))
    ∧ byte (data + 1 + m.geom.slen) = dataCrc.extractLsb' 8 8
    ∧ byte (data + 2 + m.geom.slen) = dataCrc.extractLsb' 0 8
    ∧ (∀ i, i < gaps.2 → byte (data + 3 + m.geom.slen + i) = gap)
    ∧ (∀ i, i < 6 → byte (id + 1 + i) = (fieldBytes m.density 0xFE (idBody m.geom t s r)).getD i 0)
    ∧ (∀ i, i < m.geom.slen + 2 → byte (data + 1 + i) = (fieldBytes m.density 0xFB stored).getD i 0)

/-- Feed bytes to the mark detector: the state it reaches. -/
def fedDetector (d : Density) (marks : List Byte) (q : Search) (bs : List Byte) : Search :=
  bs.foldl (fun q b => (q.detect d b marks).1) q

/-- Feed bytes to the ID collector: the state it reaches. -/
def fedId (s : State) (bs : List Byte) : State := bs.foldl (fun s b => s.idByte b) s

/-- Feed the data bytes of a field to the CRC. -/
def fedCrc (s : State) (bs : List Byte) : State := bs.foldl (fun s b => s.crcByte b) s

end Sys2Proof.Claims

open Sys2Proof.Claims

/-! Encoding (30_encoding). -/

/-- Every command decodes from its own byte with every field at every value, and every byte is the byte of the command
it decodes to (30_encoding R122, R126, R128, R129, R131). -/
def Obligations.DecodeAndEncodeAgree : Prop :=
  (∀ i : Instr, i.wf = true → decode (encode i) = i) ∧ ∀ v : Byte, encode (decode v) = v

/-- The opcode space divides into the 11 classes of 30_encoding R132: mask and match choose the command, the classes are
disjoint, and their counts, which sum to 256, are right. -/
def Obligations.OpcodeClassesDivideTheBytes : Prop :=
  (∀ c ∈ opcodeClasses, ∀ v : Byte, commandName (decode v) = c.1 ↔ v &&& c.2.1 = c.2.2.1)
    ∧ (opcodeClasses.map fun c => c.1).Nodup
    ∧ (∀ c ∈ opcodeClasses,
        ((List.range 256).filter fun k => (BitVec.ofNat 8 k &&& c.2.1) == c.2.2.1).length = c.2.2.2)
    ∧ (opcodeClasses.map fun c => c.2.2.2).sum = 256

/-- The decoder's precedence (30_encoding R121): bits 7 to 4 = 1101 is Type IV, then bit 7 = 0 is Type I, then bits 7
to 5 below 110 is Type II, else Type III; and the command decoded is of that type. -/
def Obligations.ClassifyFollowsThePrecedence : Prop :=
  ∀ v : Byte,
    (v.extractLsb' 4 4 = 0b1101 → classify v = .IV)
      ∧ (v.extractLsb' 4 4 ≠ 0b1101 → v.getLsbD 7 = false → classify v = .I)
      ∧ (v.extractLsb' 4 4 ≠ 0b1101 → v.getLsbD 7 = true → v.extractLsb' 5 3 < 0b110#3 → classify v = .II)
      ∧ (v.extractLsb' 4 4 ≠ 0b1101 → v.getLsbD 7 = true → ¬ v.extractLsb' 5 3 < 0b110#3 → classify v = .III)
      ∧ (commandName (decode v)).type = classify v

/-- Some bytes of 95_test_vectors W12 and V1 decode as their rows say. -/
def Obligations.SampleBytesDecode : Prop :=
  decode 0x0B = .restore true false 3 ∧ decode 0x1F = .seek true true 3 ∧ decode 0x58 = .stepIn true true false 0
    ∧ decode 0x9E = .readSector true true true true false ∧ decode 0xA9 = .writeSector false true false false true
    ∧ decode 0xC4 = .readAddress false true false false ∧ decode 0xD4 = .forceInterrupt 0b0100
    ∧ decode 0xE4 = .readTrack false true false false ∧ decode 0xFF = .writeTrack true true true true

/-- A command byte that differs only in ignored bits behaves the same (30_encoding R131): the two next states differ in
`CR` alone, which no port reads. That `f_a0` too is the same after READ SECTOR rests on log 7. -/
def Obligations.IgnoredBitsChangeOnlyCr : Prop :=
  (∀ (m b e u x y : Bool) (s : State), ∃ t cr,
      exec (.readSector m b e u x) s = .next t ∧ exec (.readSector m b e u y) s = .next { t with regs.cr := cr })
    ∧ (∀ (x x' e u y y' : Bool) (s : State), ∃ t cr,
      exec (.readAddress x e u y) s = .next t ∧ exec (.readAddress x' e u y') s = .next { t with regs.cr := cr })
    ∧ (∀ (x x' e u y y' : Bool) (s : State), ∃ t cr,
      exec (.readTrack x e u y) s = .next t ∧ exec (.readTrack x' e u y') s = .next { t with regs.cr := cr })
    ∧ (∀ (x x' e u y y' : Bool) (s : State), ∃ t cr,
      exec (.writeTrack x e u y) s = .next t ∧ exec (.writeTrack x' e u y') s = .next { t with regs.cr := cr })

/-- The sector length of every length code, by its bits 1:0; and on a medium's own ID fields the length matches with
`f_b = 1` and never with `f_b = 0` (30_encoding R130, decision D12; 20_memory R87). -/
def Obligations.LengthMatchesOnlyWithSwapFlag : Prop :=
  (∀ n : Byte,
      (n.extractLsb' 0 2 = 0 → seclen n true = 128 ∧ seclen n false = 256)
        ∧ (n.extractLsb' 0 2 = 1 → seclen n true = 256 ∧ seclen n false = 512)
        ∧ (n.extractLsb' 0 2 = 2 → seclen n true = 512 ∧ seclen n false = 1024)
        ∧ (n.extractLsb' 0 2 = 3 → seclen n true = 1024 ∧ seclen n false = 128))
    ∧ ∀ (d : Density) (g : Geometry), g.wf d = true →
    seclen (lengthCode g.slen) true = g.slen ∧ seclen (lengthCode g.slen) false ≠ g.slen

/-! The command write (40_common section 2, 41_type1 section 1, 42_type2 section 1, 44_type4). -/

/-- A step whose call is a write to port +0 runs the command the byte decodes to, on the state with that call taken and
the last reply gone (20_memory R73, logs 1 and 2). -/
def Obligations.CommandWriteRunsDecodedCommand : Prop :=
  ∀ (s : State) (v : Byte) (rest : List Call), s.calls = .write 0 v :: rest →
    step s = exec (decode v) { s with calls := rest, reply := .nothing }

/-- RESTORE, SEEK, STEP, STEP-IN and STEP-OUT written while no command is in flight are taken: each completes in the
state `type1_setup()` gives, with the direction of its case (41_type1 R200, R201; 40_common R158). -/
def Obligations.TypeICommandsStartStepping : Prop :=
  ∀ s : State, s.prog.commandDone = true →
    (∀ h v r, exec (.restore h v r) s =
        .next (startedTypeI (.restore h v r) h (typeIFlags s.cmd.flags h v true r) false s))
      ∧ (∀ h v r, exec (.seek h v r) s =
        .next (startedTypeI (.seek h v r) h (typeIFlags s.cmd.flags h v true r)
          (if s.regs.tr < s.regs.dr then true else if s.regs.dr < s.regs.tr then false else s.pins.direction) s))
      ∧ (∀ u h v r, exec (.step u h v r) s =
        .next (startedTypeI (.step u h v r) h (typeIFlags s.cmd.flags h v u r) s.pins.direction s))
      ∧ (∀ u h v r, exec (.stepIn u h v r) s =
        .next (startedTypeI (.stepIn u h v r) h (typeIFlags s.cmd.flags h v u r) true s))
      ∧ (∀ u h v r, exec (.stepOut u h v r) s =
        .next (startedTypeI (.stepOut u h v r) h (typeIFlags s.cmd.flags h v u r) false s))

/-- READ SECTOR, WRITE SECTOR, READ ADDRESS, READ TRACK and WRITE TRACK written while no command is in flight and the
drive is ready are taken: each completes in the state `type23_setup()` gives (42_type2 R240, 40_common R158). The Type II
flags the command does not decode are left unsaid (logs 7, 8). -/
def Obligations.TypeIIAndIIICommandsStart : Prop :=
  ∀ s : State, s.prog.commandDone = true → s.pins.ready = true →
    (∀ m b e u x, ∃ f, typeIIFlags f s.cmd.flags m b e u
        ∧ exec (.readSector m b e u x) s = .next (startedTypeIIorIII (.readSector m b e u x) f s))
      ∧ (∀ m b e u a, ∃ f, typeIIFlags f s.cmd.flags m b e u ∧ f.a0 = a
        ∧ exec (.writeSector m b e u a) s = .next (startedTypeIIorIII (.writeSector m b e u a) f s))
      ∧ (∀ x e u y, ∃ f, typeIIIFlags f s.cmd.flags e u
        ∧ exec (.readAddress x e u y) s = .next (startedTypeIIorIII (.readAddress x e u y) f s))
      ∧ (∀ x e u y, ∃ f, typeIIIFlags f s.cmd.flags e u
        ∧ exec (.readTrack x e u y) s = .next (startedTypeIIorIII (.readTrack x e u y) f s))
      ∧ (∀ x e u y, ∃ f, typeIIIFlags f s.cmd.flags e u
        ∧ exec (.writeTrack x e u y) s = .next (startedTypeIIorIII (.writeTrack x e u y) f s))

/-- A Type II or III command issued with the drive not ready sets INTRQ and never BUSY, and changes nothing else but what
`start_common` wrote (40_common R159). The Type II flags the command does not decode are left unsaid (logs 7, 8). -/
def Obligations.NotReadyAbortsTypeIIAndIII : Prop :=
  ∀ s : State, s.prog.commandDone = true → s.pins.ready = false →
    (∀ m b e u x, ∃ f, typeIIFlags f s.cmd.flags m b e u
        ∧ exec (.readSector m b e u x) s = .next (abortedNotReady (.readSector m b e u x) f s))
      ∧ (∀ m b e u a, ∃ f, typeIIFlags f s.cmd.flags m b e u ∧ f.a0 = a
        ∧ exec (.writeSector m b e u a) s = .next (abortedNotReady (.writeSector m b e u a) f s))
      ∧ (∀ x e u y, ∃ f, typeIIIFlags f s.cmd.flags e u
        ∧ exec (.readAddress x e u y) s = .next (abortedNotReady (.readAddress x e u y) f s))
      ∧ (∀ x e u y, ∃ f, typeIIIFlags f s.cmd.flags e u
        ∧ exec (.readTrack x e u y) s = .next (abortedNotReady (.readTrack x e u y) f s))
      ∧ (∀ x e u y, ∃ f, typeIIIFlags f s.cmd.flags e u
        ∧ exec (.writeTrack x e u y) s = .next (abortedNotReady (.writeTrack x e u y) f s))

/-- A Type I, II or III command written while a command is in flight changes no state (40_common R160); the premise is
the invariant that `STR` agrees with the pins between calls (R156). -/
def Obligations.CommandWhileBusyIsRejected : Prop :=
  ∀ (i : Instr) (s : State), commandName i ≠ .forceInterrupt → s.prog.commandDone = false →
    s.regs.str = s.status → exec i s = .next s

/-- FORCE INTERRUPT, in every form and in every state, completes as `force_interrupt(v)` says (44_type4 R310). -/
def Obligations.ForceInterruptActsAtOnce : Prop :=
  ∀ (c : BitVec 4) (s : State),
    let armed : Armed := { i0 := c.getLsbD 0, i1 := c.getLsbD 1, i2 := c.getLsbD 2, i3 := c.getLsbD 3 }
    exec (.forceInterrupt c) s = .next (State.statusRefresh
      (if s.prog.commandDone then
        { s with
          regs.cr := encode (.forceInterrupt c)
          statusLayout := .typeI
          pins := { s.pins with intrq := c.getLsbD 3, drq := false }
          cmd := { s.cmd with cmdType := some .IV, cmdName := some .forceInterrupt, armed := armed }
          prog := { s.prog with terminateCommand := false } }
      else if c = 0 ∨ c.getLsbD 3 = true then
        { s with
          regs.cr := encode (.forceInterrupt c)
          pins := { s.pins with intrq := c.getLsbD 3, drq := false }
          cmd := { s.cmd with phase := .idle, armed := armed }
          prog := { s.prog with commandDone := true, terminateCommand := false } }
      else
        { s with
          regs.cr := encode (.forceInterrupt c)
          pins := { s.pins with intrq := false }
          cmd := { s.cmd with armed := armed }
          prog := { s.prog with terminateCommand := false } }))

/-! Ports, pins and status (10_state, 20_memory section 2). -/

/-- The bits of `STR` after `status_refresh()` in each layout (10_state R27, R28); nothing but `STR` changes (40_common
R173). -/
def Obligations.StatusRegisterLayouts : Prop :=
  ∀ s : State,
    s.statusRefresh = { s with regs.str := s.status }
      ∧ (s.statusLayout = .typeI →
        s.statusRefresh.regs.str.getLsbD 7 = !s.pins.ready ∧ s.statusRefresh.regs.str.getLsbD 6 = false
          ∧ s.statusRefresh.regs.str.getLsbD 5 = (s.pins.hld && s.pins.hlt)
          ∧ s.statusRefresh.regs.str.getLsbD 4 = s.latched.seekError
          ∧ s.statusRefresh.regs.str.getLsbD 3 = s.latched.crcError
          ∧ s.statusRefresh.regs.str.getLsbD 2 = decide (s.head.currentTrack = 0)
          ∧ s.statusRefresh.regs.str.getLsbD 1 = s.pins.indexPulse
          ∧ s.statusRefresh.regs.str.getLsbD 0 = !s.prog.commandDone)
      ∧ (s.statusLayout = .typeIIandIII →
        s.statusRefresh.regs.str.getLsbD 7 = !s.pins.ready ∧ s.statusRefresh.regs.str.getLsbD 6 = false
          ∧ s.statusRefresh.regs.str.getLsbD 5 = s.latched.recordType
          ∧ s.statusRefresh.regs.str.getLsbD 4 = s.latched.rnf
          ∧ s.statusRefresh.regs.str.getLsbD 3 = s.latched.crcError
          ∧ s.statusRefresh.regs.str.getLsbD 2 = s.latched.lostData
          ∧ s.statusRefresh.regs.str.getLsbD 1 = s.pins.drq
          ∧ s.statusRefresh.regs.str.getLsbD 0 = !s.prog.commandDone)

/-- A read of port +0 returns the refreshed `STR` and clears INTRQ; no other state changes (20_memory R72). -/
def Obligations.StatusReadClearsIntrq : Prop :=
  ∀ (s : State) (rest : List Call), s.calls = .read 0 :: rest →
    step s = .next
      { s with
        regs.str := s.status, pins.intrq := false, calls := rest, reply := .byte s.status }

/-- The ports other than +0 and +3: +1 and +2 read and write `TR` and `SR`, busy or not; +4 writes the latch and
`side_select` and reads 0x00; +5 reads a free byte and ignores writes; any other offset reads 0x00 and ignores writes
(20_memory R74, R75, R78 to R81). The form of the free byte, with the count of reads that the model adds to the state,
is the model's choice (log 6), as are the call list and the reply (logs 1, 2). -/
def Obligations.PlainPortsReadAndWrite : Prop :=
  ∀ (s : State) (rest : List Call) (v : Byte),
    (s.calls = .read 1 :: rest →
      step s = .next (State.statusRefresh { s with calls := rest, reply := .byte s.regs.tr }))
      ∧ (s.calls = .write 1 v :: rest →
        step s = .next (State.statusRefresh { s with regs.tr := v, calls := rest, reply := .nothing }))
      ∧ (s.calls = .read 2 :: rest →
        step s = .next (State.statusRefresh { s with calls := rest, reply := .byte s.regs.sr }))
      ∧ (s.calls = .write 2 v :: rest →
        step s = .next (State.statusRefresh { s with regs.sr := v, calls := rest, reply := .nothing }))
      ∧ (s.calls = .write 4 v :: rest →
        step s = .next (State.statusRefresh
          { s with regs.latch := v, pins.sideSelect := v.getLsbD 0, calls := rest, reply := .nothing }))
      ∧ (∀ p, p = 4 ∨ 5 < p → s.calls = .read p :: rest →
        step s = .next (State.statusRefresh { s with calls := rest, reply := .byte 0x00 }))
      ∧ (s.calls = .read 5 :: rest →
        step s = .next (State.statusRefresh
          { s with
            calls := rest, reply := .byte (Config.auxStatusByte s.auxReads), auxReads := s.auxReads + 1 }))
      ∧ (∀ p, 5 ≤ p → s.calls = .write p v :: rest →
        step s = .next (State.statusRefresh { s with calls := rest, reply := .nothing }))

/-- Port +3 reads and writes `DR`; a read clears DRQ after a read-type command and a write clears it after a write-type
command, and nothing else changes (20_memory R76, R77). -/
def Obligations.DataPortServesDrq : Prop :=
  ∀ (s : State) (rest : List Call) (v : Byte),
    (s.calls = .read 3 :: rest →
      step s = .next (State.statusRefresh
        { s with
          pins.drq := s.pins.drq
            && !decide (s.cmd.cmdName = some .readSector ∨ s.cmd.cmdName = some .readAddress
              ∨ s.cmd.cmdName = some .readTrack)
          calls := rest
          reply := .byte s.regs.dr }))
      ∧ (s.calls = .write 3 v :: rest →
        step s = .next (State.statusRefresh
          { s with
            regs.dr := v
            pins.drq := s.pins.drq
              && !decide (s.cmd.cmdName = some .writeSector ∨ s.cmd.cmdName = some .writeTrack)
            calls := rest
            reply := .nothing }))

/-- `pins()` returns the ten pin levels and changes nothing but the model's own call list and reply (40_common R154;
logs 1, 2). -/
def Obligations.PinsReadHasNoSideEffect : Prop :=
  ∀ (s : State) (rest : List Call), s.calls = .pins :: rest →
    step s = .next
      { s with
        calls := rest
        reply := .levels
          { indexPulse := s.pins.indexPulse, ready := s.pins.ready, tg43 := s.pins.tg43, hld := s.pins.hld,
            hlt := s.pins.hlt, notTrack00 := decide (s.head.currentTrack ≠ 0), direction := s.pins.direction,
            sideSelect := s.pins.sideSelect, drq := s.pins.drq, intrq := s.pins.intrq } }

/-- A READY transition whose condition is armed sets INTRQ and terminates a command in flight; any other `set_ready` only
sets the level (40_common R153, 44_type4 R315). -/
def Obligations.ReadyTransitionsFireArmedConditions : Prop :=
  ∀ (s : State) (level : Bool) (rest : List Call), s.calls = .setReady level :: rest →
    step s = .next (State.statusRefresh
      (if (s.pins.ready = false ∧ level = true ∧ s.cmd.armed.i0 = true)
          ∨ (s.pins.ready = true ∧ level = false ∧ s.cmd.armed.i1 = true) then
        { s with
          pins :=
            { s.pins with ready := level, intrq := true, drq := s.pins.drq && s.prog.commandDone }
          prog := { s.prog with commandDone := true }
          cmd := { s.cmd with phase := if s.prog.commandDone then s.cmd.phase else .idle }
          calls := rest
          reply := .nothing }
      else { s with pins.ready := level, calls := rest, reply := .nothing }))

/-! Reset (70_reset section 1). -/

/-- A well-formed reset call puts every piece of state at its value of 70_reset R381, row by row, whatever it was, with
`STR` as R382 says; the model's own fields stay (log 15). The premise on `P_HLT_DELAY_US` is its range of 00_scope R8. -/
def Obligations.ResetGivesTheResetState : Prop :=
  ∀ (s : State) (c : Setup) (rest : List Call), s.calls = .reset c :: rest → c.mediumWf = true →
    45000 ≤ c.hltDelay → c.hltDelay ≤ 60000 →
    let t : State :=
      { regs :=
          { dsr := 0x00, dr := 0x00, tr := 0x00, sr := 0x00, cr := 0x00
            str := BitVec.ofNat 8 ((if c.ready then 0 else 0x80) + (if c.initialTrack = 0 then 0x04 else 0))
            crc := 0x0000, latch := 0x00 }
        statusLayout := .typeI
        pins :=
          { indexPulse := false, ready := c.ready, tg43 := false, hld := false, hlt := false, direction := false
            sideSelect := false, drq := false, intrq := false }
        cmd :=
          { cmdType := none
            cmdName := none
            flags :=
              { rate := 0, verify := false, headLoad := false, trackUpdate := false, a0 := false
                updateSide := false, eDelay := false, lengthSwap := false, multi := false }
            phase := .idle
            armed := { i0 := false, i1 := false, i2 := false, i3 := false } }
        prog :=
          { commandActionDone := false, commandDone := true, headSettlingDone := false, eDelayDone := false
            startByteSet := false, terminateCommand := false }
        latched := { seekError := false, crcError := false, rnf := false, lostData := false, recordType := false }
        timers :=
          { master := 0, indexEnc := 0, indexWidth := 0, step := 0, settle := 0, eDelay := 0, rotAcc := 0
            hldIdle := 0, hlt := 0 }
        head := { currentTrack := c.initialTrack, rotPtr := 0, startPtr := 0, imageOffset := 0 }
        search :=
          { zr := 0, sc := 0, amFound := false
            idBuf := { track := 0, side := 0, sector := 0, lengthCode := 0, crcHi := 0, crcLo := 0 }
            idCount := 0, indexCount := 0, damCount := 0, xferCount := 0, wcount := 0
            crcHi := 0, crcLo := 0, crcCount := 0 }
        medium := { density := c.density, hltDelay := c.hltDelay, geom := c.geom, image := Memory.ofBytes c.image }
        calls := rest
        reply := .nothing
        auxReads := s.auxReads }
    step s = .next t ∧ (t.notTrack00 = true ↔ c.initialTrack ≠ 0)

/-- Reset refuses exactly the media of 20_memory R101, bound by bound; the fit is that of R86. -/
def Obligations.ResetRefusesIllFormedMedia : Prop :=
  ∀ (s : State) (c : Setup) (rest : List Call), s.calls = .reset c :: rest →
    (step s = .refused .badMedium ↔
      (c.geom.cyl < 1 ∨ 256 < c.geom.cyl) ∨ (c.geom.sides ≠ 1 ∧ c.geom.sides ≠ 2)
        ∨ (c.geom.spt < 1 ∨ 255 < c.geom.spt)
        ∨ (c.geom.slen ≠ 128 ∧ c.geom.slen ≠ 256 ∧ c.geom.slen ≠ 512 ∧ c.geom.slen ≠ 1024)
        ∨ c.image.length ≠ c.geom.cyl * c.geom.sides * c.geom.spt * c.geom.slen
        ∨ (match c.density with
          | .mfm => 7500 < 146 + c.geom.spt * (62 + c.geom.slen + 84)
          | .fm => 3750 < 73 + c.geom.spt * (33 + c.geom.slen + 27))
        ∨ c.geom.cyl ≤ c.initialTrack)

/-! The tick and the timing engine (40_common section 3, 60_exceptions section 4). -/

/-- `advance(dt)` is refused when dt is not in `0 < dt ≤ P_BYTE_TIME_US`, and else runs the five steps in their fixed
order: rotation and index pulse, HLT, status, the command, the idle head unload; then `STR` is refreshed (60_exceptions
R338 X1, 40_common R152, R162 to R166; the byte time is 00_scope R8's). That step 5 runs in the tick in which the index
condition terminates a command too is the model's choice between two rules (log 22): R152 runs it in every tick, and
44_type4 R317 says that the idle unload starts from the next tick. -/
def Obligations.TickRunsItsFiveStepsInOrder : Prop :=
  ∀ (s : State) (dt : Time) (rest : List Call), s.Sound → s.calls = .advance dt :: rest →
    (¬ (0 < dt ∧ dt ≤ byteMicros s.medium.density) → step s = .refused .tickOutOfRange)
      ∧ (0 < dt ∧ dt ≤ byteMicros s.medium.density →
        let called : State := { s with calls := rest, reply := .nothing }
        let rotated := State.timingStep dt { called with timers.master := s.timers.master + dt }
        let timed := rotated.hltStep dt
        let shown := State.statusRefresh { timed with pins.tg43 := decide (43 < s.regs.tr.toNat) }
        let handled := shown.commandStep dt (s.tickEvents dt)
        step s = .next (handled.hldIdleStep dt).statusRefresh)

/-- Step 4 of a tick: an armed index condition that fires sets INTRQ and terminates a command in flight, and the handler
does not run; else the phase handler runs if a command is in flight, and nothing happens if none is (40_common R165,
44_type4 R314). -/
def Obligations.IndexConditionActsBeforeTheHandler : Prop :=
  ∀ (s : State) (dt : Time) (e : TickEvents),
    (e.ie = true → s.cmd.armed.i2 = true → s.commandStep dt e =
        { s with
          pins := { s.pins with intrq := true, drq := s.pins.drq && s.prog.commandDone }
          prog := { s.prog with commandDone := true }
          cmd := { s.cmd with phase := if s.prog.commandDone then s.cmd.phase else .idle } })
      ∧ (¬ (e.ie = true ∧ s.cmd.armed.i2 = true) → s.prog.commandDone = true → s.commandStep dt e = s)
      ∧ (¬ (e.ie = true ∧ s.cmd.armed.i2 = true) → s.prog.commandDone = false →
        ∀ n, s.cmd.cmdName = some n → s.commandStep dt e = s.handler n dt e)

/-- `timing_step(dt)`, field by field: the accumulator, the pointer, the index edge at the wrap, the index pulse's width
and the index-encounter timer; nothing else changes, the other timers included (60_exceptions R350 to R353, R357; the
byte time and the track length are 00_scope R8's). -/
def Obligations.TimingStepRotatesTheDisk : Prop :=
  ∀ (s : State) (dt : Time),
    let event : Prop := byteMicros s.medium.density ≤ s.timers.rotAcc + dt
    let next := (s.head.rotPtr + 1) % revolutionBytes s.medium.density
    let t := s.timingStep dt
    (event → t.timers.rotAcc = s.timers.rotAcc + dt - byteMicros s.medium.density ∧ t.head.rotPtr = next
        ∧ (s.tickEvents dt).be = true
        ∧ (s.tickEvents dt).b = mediumByte s.medium s.head.currentTrack s.pins.sideSelect.toNat next
        ∧ ((s.tickEvents dt).ie = true ↔ next = 0))
      ∧ (¬ event → t.timers.rotAcc = s.timers.rotAcc + dt ∧ t.head.rotPtr = s.head.rotPtr
        ∧ (s.tickEvents dt).be = false ∧ (s.tickEvents dt).b = 0x00 ∧ (s.tickEvents dt).ie = false)
      ∧ ((s.tickEvents dt).ie = true → t.pins.indexPulse = true ∧ t.timers.indexWidth = 0 ∧ t.timers.indexEnc = 0)
      ∧ ((s.tickEvents dt).ie = false → t.timers.indexEnc = s.timers.indexEnc + dt
        ∧ (s.pins.indexPulse = true → 20 ≤ s.timers.indexWidth + dt →
          t.pins.indexPulse = false ∧ t.timers.indexWidth = 0)
        ∧ (s.pins.indexPulse = true → s.timers.indexWidth + dt < 20 →
          t.pins.indexPulse = true ∧ t.timers.indexWidth = s.timers.indexWidth + dt)
        ∧ (s.pins.indexPulse = false → t.pins.indexPulse = false ∧ t.timers.indexWidth = s.timers.indexWidth))
      ∧ t =
        { s with
          timers :=
            { s.timers with
              rotAcc := t.timers.rotAcc, indexEnc := t.timers.indexEnc, indexWidth := t.timers.indexWidth }
          head.rotPtr := t.head.rotPtr
          pins.indexPulse := t.pins.indexPulse }

/-- The HLT one-shot and the idle unload (60_exceptions R354, R355). After a tick in which a command was in flight the idle
timer is 0, and from 0 no tick unloads the head: HLD stays in the tick that ends such a command (44_type4 R317). -/
def Obligations.HeadLoadTimers : Prop :=
  ∀ (s : State) (dt : Time),
    (s.hltStep dt =
        if s.pins.hld = true ∧ s.pins.hlt = false then
          (if s.medium.hltDelay ≤ s.timers.hlt + dt then { s with pins.hlt := true, timers.hlt := 0 }
          else { s with timers.hlt := s.timers.hlt + dt })
        else s)
      ∧ (s.hldIdleStep dt =
        if s.prog.commandDone = false then { s with timers.hldIdle := 0 }
        else if s.pins.hld = true then
          (if 3000000 ≤ s.timers.hldIdle + dt then { s with pins.hld := false, timers.hldIdle := 0 }
          else { s with timers.hldIdle := s.timers.hldIdle + dt })
        else s)
      ∧ (s.timers.hldIdle = 0 → dt ≤ byteMicros s.medium.density → (s.hldIdleStep dt).pins.hld = s.pins.hld)

/-! The phases of Type I (41_type1). -/

/-- RESTORE's stepping: at track 0 it ends with `TR = 0`; else it waits the step interval and steps out once
(41_type1 R202). -/
def Obligations.RestoreStepsOutToTrackZero : Prop :=
  ∀ (s : State) (dt : Time) (e : TickEvents), s.InPhase .restore .t1Step e →
    let interval := stepMicros s.cmd.flags.rate
    (s.head.currentTrack = 0 → s.commandStep dt e = State.actionDone { s with regs.tr := 0 })
      ∧ (s.head.currentTrack ≠ 0 → s.timers.step + dt < interval →
        s.commandStep dt e = { s with timers.step := s.timers.step + dt })
      ∧ (s.head.currentTrack = 1 → interval ≤ s.timers.step + dt →
        s.commandStep dt e = State.actionDone { s with timers.step := 0, head.currentTrack := 0, regs.tr := 0 })
      ∧ (1 < s.head.currentTrack → interval ≤ s.timers.step + dt →
        s.commandStep dt e = { s with timers.step := 0, head.currentTrack := s.head.currentTrack - 1 })

/-- SEEK's stepping: at `TR = DR` it ends; else it waits the step interval, moves `TR` one closer to `DR`, and the head
one cylinder that way, clamped (41_type1 R203, R207). -/
def Obligations.SeekStepsTowardTheDataRegister : Prop :=
  ∀ (s : State) (dt : Time) (e : TickEvents), s.InPhase .seek .t1Step e →
    let interval := stepMicros s.cmd.flags.rate
    (s.regs.tr = s.regs.dr → s.commandStep dt e = s.actionDone)
      ∧ (s.regs.tr ≠ s.regs.dr → s.timers.step + dt < interval →
        s.commandStep dt e = { s with timers.step := s.timers.step + dt })
      ∧ (s.regs.tr < s.regs.dr → interval ≤ s.timers.step + dt →
        let t : State :=
          { s with
            timers.step := 0, pins.direction := true, regs.tr := s.regs.tr + 1
            head.currentTrack :=
              if s.head.currentTrack + 1 < s.medium.geom.cyl then s.head.currentTrack + 1 else s.head.currentTrack }
        t.regs.tr.toNat = s.regs.tr.toNat + 1
          ∧ s.commandStep dt e = if t.regs.tr = t.regs.dr then t.actionDone else t)
      ∧ (s.regs.dr < s.regs.tr → interval ≤ s.timers.step + dt →
        let t : State :=
          { s with
            timers.step := 0, pins.direction := false, regs.tr := s.regs.tr - 1
            head.currentTrack := s.head.currentTrack - 1 }
        t.regs.tr.toNat + 1 = s.regs.tr.toNat
          ∧ s.commandStep dt e = if t.regs.tr = t.regs.dr then t.actionDone else t)

/-- STEP, STEP-IN and STEP-OUT step once after one interval: the head moves unless clamped, and `TR` with it, modulo 256,
if `f_u = 1` (41_type1 R204 to R206). The premise on the cylinder is 10_state R50. -/
def Obligations.StepFamilyStepsOnce : Prop :=
  ∀ (s : State) (dt : Time) (e : TickEvents) (n : CmdName), n = .step ∨ n = .stepIn ∨ n = .stepOut →
    s.InPhase n .t1Step e → s.head.currentTrack < s.medium.geom.cyl →
    let interval := stepMicros s.cmd.flags.rate
    (s.timers.step + dt < interval → s.commandStep dt e = { s with timers.step := s.timers.step + dt })
      ∧ (interval ≤ s.timers.step + dt → s.pins.direction = false → s.head.currentTrack = 0 →
        s.commandStep dt e = State.actionDone { s with timers.step := 0 })
      ∧ (interval ≤ s.timers.step + dt → s.pins.direction = true → s.head.currentTrack + 1 = s.medium.geom.cyl →
        s.commandStep dt e = State.actionDone { s with timers.step := 0 })
      ∧ (interval ≤ s.timers.step + dt → s.pins.direction = false → s.head.currentTrack ≠ 0 →
        s.commandStep dt e = State.actionDone
          { s with
            timers.step := 0, head.currentTrack := s.head.currentTrack - 1
            regs.tr := if s.cmd.flags.trackUpdate then s.regs.tr + 255 else s.regs.tr })
      ∧ (interval ≤ s.timers.step + dt → s.pins.direction = true → s.head.currentTrack + 1 < s.medium.geom.cyl →
        s.commandStep dt e = State.actionDone
          { s with
            timers.step := 0, head.currentTrack := s.head.currentTrack + 1
            regs.tr := if s.cmd.flags.trackUpdate then s.regs.tr + 1 else s.regs.tr })

/-- `action_done()`, and the settle wait and HLT gate of a verify: without verify the command ends with BUSY cleared and
INTRQ set; with verify the head is loaded, settles, and waits for HLT (41_type1 R208 to R210). `finish()` is the end of
every command that is not terminated (40_common R170). -/
def Obligations.ActionDoneEndsOrStartsTheVerify : Prop :=
  (∀ s : State, s.finish =
      { s with prog.commandDone := true, cmd.phase := .idle, pins.intrq := true, timers.hldIdle := 0 })
    ∧ (∀ s : State, s.cmd.flags.verify = false → s.actionDone =
      { s with
        prog := { s.prog with commandActionDone := true, commandDone := true }
        cmd.phase := .idle
        pins.intrq := true
        timers.hldIdle := 0 })
    ∧ (∀ s : State, s.cmd.flags.verify = true → s.actionDone =
      { s with
        prog.commandActionDone := true
        cmd.phase := .t1Settle
        pins := { s.pins with hld := true, hlt := s.pins.hld && s.pins.hlt }
        timers := { s.timers with settle := 0, hlt := if s.pins.hld then s.timers.hlt else 0 } })
    ∧ (∀ (s : State) (dt : Time) (e : TickEvents) (n : CmdName), s.InPhase n .t1Settle e → s.commandStep dt e =
      if 30000 ≤ s.timers.settle + dt then
        { s with timers.settle := 0, prog.headSettlingDone := true, cmd.phase := .t1WaitHlt }
      else { s with timers.settle := s.timers.settle + dt })
    ∧ (∀ (s : State) (dt : Time) (e : TickEvents) (n : CmdName), s.InPhase n .t1WaitHlt e → s.commandStep dt e =
      if s.pins.hlt then
        { s with
          search := freshSearch s.search
          cmd.phase := .t1Verify }
      else s)

/-- The verify search: an ID field with track byte `TR` and a good CRC ends the command; one with a bad CRC sets
`crc_error` and the search goes on; any other byte only counts the window (41_type1 R211). -/
def Obligations.VerifyComparesTheTrackByte : Prop :=
  ∀ (s : State) (dt : Time) (e : TickEvents) (n : CmdName), s.InPhase n .t1Verify e →
    (e.be = false → s.commandStep dt e = s.searchWindow e.ie)
      ∧ (e.be = true →
        let t := s.idByte e.b
        (s.idResult e.b = some true → t.search.idBuf.track = s.regs.tr → s.commandStep dt e = t.finish)
          ∧ (s.idResult e.b = some false → t.search.idBuf.track = s.regs.tr →
            s.commandStep dt e = State.searchWindow e.ie { t with latched.crcError := true })
          ∧ (s.idResult e.b = none ∨ t.search.idBuf.track ≠ s.regs.tr → s.commandStep dt e = t.searchWindow e.ie))

/-- The search window: an index edge is counted, and the fifth sets `seek_error` in a verify and `rnf` in the other
searches, and ends the command with INTRQ (40_common R178). That a tick with no index edge fails no search, whatever
`index_count` holds, is the model's choice (log 12). -/
def Obligations.SearchFailsAtTheFifthIndexEdge : Prop :=
  ∀ s : State,
    (s.searchWindow false = s)
      ∧ (s.search.indexCount + 1 < 5 →
        s.searchWindow true = { s with search.indexCount := s.search.indexCount + 1 })
      ∧ (5 ≤ s.search.indexCount + 1 → s.searchWindow true =
        { s with
          search.indexCount := s.search.indexCount + 1
          latched :=
            if s.cmd.phase = .t1Verify then { s.latched with seekError := true } else { s.latched with rnf := true }
          prog.commandDone := true
          cmd.phase := .idle
          pins.intrq := true
          timers.hldIdle := 0 })

/-! The phases of Types II and III (42_type2, 43_type3). -/

/-- The E-delay and the HLT gate, with the first data phase of each command and the image offset it records (42_type2 R241
to R243). -/
def Obligations.HltGateStartsTheDataPhase : Prop :=
  ∀ (s : State) (dt : Time) (e : TickEvents) (n : CmdName),
    (s.InPhase n .xEDelay e → s.commandStep dt e =
        if 15000 ≤ s.timers.eDelay + dt then
          { s with timers.eDelay := 0, prog.eDelayDone := true, cmd.phase := .xWaitHlt }
        else { s with timers.eDelay := s.timers.eDelay + dt })
      ∧ (s.InPhase n .xWaitHlt e → s.pins.hlt = false → s.commandStep dt e = s)
      ∧ (s.InPhase n .xWaitHlt e → s.pins.hlt = true →
        let t : State := { s with prog.startByteSet := true, head.startPtr := s.head.rotPtr }
        (n = .readSector ∨ n = .writeSector →
            s.commandStep dt e =
              { t with
                head.imageOffset := targetOffset s, search := freshSearch s.search, cmd.phase := .secSearchId })
          ∧ (n = .readAddress →
            s.commandStep dt e = { t with search := freshSearch s.search, cmd.phase := .raSearch })
          ∧ (n = .readTrack → s.commandStep dt e = { t with search.xferCount := 0, cmd.phase := .rtXfer })
          ∧ (n = .writeTrack →
            s.commandStep dt e = { t with search.xferCount := 0, pins.drq := true, cmd.phase := .wtXfer }))

/-- The ID search of READ SECTOR and WRITE SECTOR: track, side, sector and length must all match; a good match starts the
data phase, a bad CRC sets `crc_error`, and the rest only counts the window (42_type2 R244). -/
def Obligations.SectorSearchMatchesTheWholeId : Prop :=
  ∀ (s : State) (dt : Time) (e : TickEvents) (n : CmdName), n = .readSector ∨ n = .writeSector →
    s.InPhase n .secSearchId e →
    (e.be = false → s.commandStep dt e = s.searchWindow e.ie)
      ∧ (e.be = true →
        let t := s.idByte e.b
        let hit : Prop :=
          t.search.idBuf.track = s.regs.tr ∧ t.search.idBuf.side.toNat = s.pins.sideSelect.toNat
            ∧ t.search.idBuf.sector = s.regs.sr
            ∧ seclen t.search.idBuf.lengthCode s.cmd.flags.lengthSwap = s.medium.geom.slen
        (s.idResult e.b = some true → hit → n = .readSector → s.commandStep dt e =
            { t with search := { t.search with zr := 0, sc := 0, damCount := 0 }, cmd.phase := .rsSearchDam })
          ∧ (s.idResult e.b = some true → hit → n = .writeSector → s.commandStep dt e =
            { t with search.wcount := 0, pins.drq := true, cmd.phase := .wsGap })
          ∧ (s.idResult e.b = some false → hit →
            s.commandStep dt e = State.searchWindow e.ie { t with latched.crcError := true })
          ∧ (s.idResult e.b = none ∨ ¬ hit → s.commandStep dt e = t.searchWindow e.ie))

/-- The data-mark search of READ SECTOR: a mark starts the data phase with its CRC and sets `record_type`; the end of
the window returns to the ID search; the rest only counts the search window (42_type2 R245). -/
def Obligations.DataMarkSearchHasAWindow : Prop :=
  ∀ (s : State) (dt : Time) (e : TickEvents), s.InPhase .readSector .rsSearchDam e →
    (e.be = false → s.commandStep dt e = s.searchWindow e.ie)
      ∧ (e.be = true →
        let t : State := { s.detect e.b [0xFB, 0xF8] with search.damCount := s.search.damCount + 1 }
        let window := match s.medium.density with | .mfm => 43 | .fm => 30
        (∀ mark, s.detected e.b [0xFB, 0xF8] = some mark → s.commandStep dt e =
            { t with
              latched.recordType := decide (mark = 0xF8)
              regs.crc := crc16 (crcPrefix s.medium.density mark)
              search.xferCount := 0
              cmd.phase := .rsData })
          ∧ (s.detected e.b [0xFB, 0xF8] = none → window ≤ s.search.damCount + 1 → s.commandStep dt e =
            { t with search := { t.search with amFound := false, zr := 0, sc := 0 }, cmd.phase := .secSearchId })
          ∧ (s.detected e.b [0xFB, 0xF8] = none → s.search.damCount + 1 < window →
            s.commandStep dt e = t.searchWindow e.ie))

/-- READ SECTOR's data and CRC phases: one byte to the host a byte event, the last starts the CRC; the second CRC byte
decides between `crc_error` and the next record (42_type2 R246, R247). -/
def Obligations.ReadSectorTransfersAndChecks : Prop :=
  ∀ (s : State) (dt : Time) (e : TickEvents),
    (s.InPhase .readSector .rsData e → e.be = true → s.commandStep dt e =
        { s with
          regs := { s.regs with dsr := e.b, dr := e.b, crc := crcStep s.regs.crc e.b }
          latched.lostData := s.latched.lostData || s.pins.drq
          pins.drq := true
          search.xferCount := s.search.xferCount + 1
          search.crcCount := if s.search.xferCount + 1 = s.medium.geom.slen then 0 else s.search.crcCount
          cmd.phase := if s.search.xferCount + 1 = s.medium.geom.slen then .rsCrc else .rsData })
      ∧ (s.InPhase .readSector .rsCrc e → e.be = true → s.search.crcCount = 0 → s.commandStep dt e =
        { s with regs.dsr := e.b, search.crcHi := e.b, search.crcCount := 1 })
      ∧ (s.InPhase .readSector .rsCrc e → e.be = true → s.search.crcCount = 1 →
        let t : State := { s with regs.dsr := e.b, search.crcLo := e.b, search.crcCount := 2 }
        s.commandStep dt e =
          if s.regs.crc = crcOfBytes s.search.crcHi e.b then t.nextRecord
          else State.finish { t with latched.crcError := true })
      ∧ (s.InPhase .readSector .rsData e ∨ s.InPhase .readSector .rsCrc e → e.be = false → s.commandStep dt e = s)

/-- `next_record()`: with `f_m = 1` and a next sector on the track, `SR` is incremented and the search starts again;
else the command ends with `SR` unchanged (42_type2 R248); the image offset recorded is that of R243. -/
def Obligations.MultipleRecordsAdvanceTheSector : Prop :=
  ∀ s : State,
    (s.cmd.flags.multi = true → s.regs.sr.toNat + 1 ≤ s.medium.geom.spt →
        let t : State := { s with regs.sr := s.regs.sr + 1 }
        s.nextRecord =
          { t with
            head.imageOffset := targetOffset t
            search := freshSearch s.search
            cmd.phase := .secSearchId })
      ∧ (s.cmd.flags.multi = false ∨ s.medium.geom.spt < s.regs.sr.toNat + 1 → s.nextRecord =
        { s with prog.commandDone := true, cmd.phase := .idle, pins.intrq := true, timers.hldIdle := 0 })

/-- WRITE SECTOR's gap and mark phases: without the first byte at the end of the gap the command ends with `lost_data`;
the sync and mark bytes go to `DSR` only (42_type2 R250, R251). -/
def Obligations.WriteSectorGapAndMark : Prop :=
  ∀ (s : State) (dt : Time) (e : TickEvents),
    (s.InPhase .writeSector .wsGap e → e.be = true →
        let gap := match s.medium.density with | .mfm => 22 | .fm => 11
        (s.search.wcount + 1 ≠ gap → s.commandStep dt e = { s with search.wcount := s.search.wcount + 1 })
          ∧ (s.search.wcount + 1 = gap → s.pins.drq = true → s.commandStep dt e =
            State.finish { s with search.wcount := gap, latched.lostData := true, pins.drq := false })
          ∧ (s.search.wcount + 1 = gap → s.pins.drq = false → s.commandStep dt e =
            { s with search.wcount := 0, cmd.phase := .wsMark }))
      ∧ (s.InPhase .writeSector .wsMark e → e.be = true →
        let mark : Byte := if s.cmd.flags.a0 then 0xF8 else 0xFB
        let last := match s.medium.density with | .mfm => 16 | .fm => 7
        let t : State :=
          { s with
            regs.dsr := (markField s.medium.density mark).getD s.search.wcount 0
            search.wcount := s.search.wcount + 1 }
        (s.search.wcount + 1 ≠ last → s.commandStep dt e = t)
          ∧ (s.search.wcount + 1 = last → s.commandStep dt e =
            { t with
              regs.crc := crc16 (crcPrefix s.medium.density mark), search.xferCount := 0, cmd.phase := .wsData }))
      ∧ (s.InPhase .writeSector .wsGap e ∨ s.InPhase .writeSector .wsMark e → e.be = false → s.commandStep dt e = s)

/-- WRITE SECTOR's data and CRC phases: `DR`, or 0x00 with `lost_data`, is taken and the next byte asked for; two CRC
bytes go to `DSR`; the medium does not change (42_type2 R252, R253). -/
def Obligations.WriteSectorTakesBytes : Prop :=
  ∀ (s : State) (dt : Time) (e : TickEvents),
    (s.InPhase .writeSector .wsData e → e.be = true →
        let v : Byte := if s.pins.drq then 0 else s.regs.dr
        let t : State :=
          { s with
            regs := { s.regs with dsr := v, crc := crcStep s.regs.crc v }
            latched.lostData := s.latched.lostData || s.pins.drq
            search.xferCount := s.search.xferCount + 1 }
        (s.search.xferCount + 1 < s.medium.geom.slen → s.commandStep dt e = { t with pins.drq := true })
          ∧ (s.medium.geom.slen ≤ s.search.xferCount + 1 →
            s.commandStep dt e = { t with pins.drq := false, search.crcCount := 0, cmd.phase := .wsCrc }))
      ∧ (s.InPhase .writeSector .wsCrc e → e.be = true → s.search.crcCount = 0 → s.commandStep dt e =
        { s with regs.dsr := s.regs.crc.extractLsb' 8 8, search.crcCount := 1 })
      ∧ (s.InPhase .writeSector .wsCrc e → e.be = true → s.search.crcCount = 1 → s.commandStep dt e =
        State.nextRecord { s with regs.dsr := s.regs.crc.extractLsb' 0 8, search.crcCount := 2 })
      ∧ (s.InPhase .writeSector .wsData e ∨ s.InPhase .writeSector .wsCrc e → e.be = false → s.commandStep dt e = s)

/-- READ ADDRESS: the next ID mark starts the transfer; six bytes go to the host, four of them into the CRC; the sixth
checks it, loads `SR` with the track byte and ends the command (43_type3 R281, R282). -/
def Obligations.ReadAddressStreamsTheIdField : Prop :=
  ∀ (s : State) (dt : Time) (e : TickEvents),
    (s.InPhase .readAddress .raSearch e → e.be = true → s.detected e.b [0xFE] = some 0xFE → s.commandStep dt e =
        { s.detect e.b [0xFE] with
          regs.crc := crc16 (crcPrefix s.medium.density 0xFE), search.xferCount := 0, cmd.phase := .raXfer })
      ∧ (s.InPhase .readAddress .raSearch e → e.be = true → s.detected e.b [0xFE] = none →
        s.commandStep dt e = (s.detect e.b [0xFE]).searchWindow e.ie)
      ∧ (s.InPhase .readAddress .raSearch e → e.be = false → s.commandStep dt e = s.searchWindow e.ie)
      ∧ (s.InPhase .readAddress .raXfer e → e.be = true →
        let t : State :=
          { s with
            regs :=
              { s.regs with
                dsr := e.b, dr := e.b
                crc := if s.search.xferCount < 4 then crcStep s.regs.crc e.b else s.regs.crc }
            latched.lostData := s.latched.lostData || s.pins.drq
            pins.drq := true
            search.idBuf := s.search.idBuf.set s.search.xferCount e.b
            search.xferCount := s.search.xferCount + 1 }
        (s.search.xferCount + 1 ≠ 6 → s.commandStep dt e = t)
          ∧ (s.search.xferCount + 1 = 6 → s.commandStep dt e = State.finish
            { t with
              latched.crcError :=
                t.latched.crcError || decide (t.regs.crc ≠ crcOfBytes t.search.idBuf.crcHi t.search.idBuf.crcLo)
              regs.sr := t.search.idBuf.track }))
      ∧ (s.InPhase .readAddress .raXfer e → e.be = false → s.commandStep dt e = s)

/-- READ TRACK delivers, and WRITE TRACK takes, a byte a byte event for `P_TRACK_LEN` of them; without the first byte WRITE
TRACK ends at once with `lost_data` (43_type3 R284, R286). -/
def Obligations.TrackTransfersTakeOneRevolution : Prop :=
  ∀ (s : State) (dt : Time) (e : TickEvents),
    (s.InPhase .readTrack .rtXfer e → e.be = true →
        let t : State :=
          { s with
            regs := { s.regs with dsr := e.b, dr := e.b }
            latched.lostData := s.latched.lostData || s.pins.drq
            pins.drq := true
            search.xferCount := s.search.xferCount + 1 }
        s.commandStep dt e = if s.search.xferCount + 1 = revolutionBytes s.medium.density then t.finish else t)
      ∧ (s.InPhase .writeTrack .wtXfer e → e.be = true → s.search.xferCount = 0 → s.pins.drq = true →
        s.commandStep dt e = State.finish { s with latched.lostData := true, pins.drq := false })
      ∧ (s.InPhase .writeTrack .wtXfer e → e.be = true → ¬ (s.search.xferCount = 0 ∧ s.pins.drq = true) →
        let t : State :=
          { s with
            regs.dsr := if s.pins.drq then 0 else s.regs.dr
            latched.lostData := s.latched.lostData || s.pins.drq
            search.xferCount := s.search.xferCount + 1 }
        s.commandStep dt e =
          if s.search.xferCount + 1 < revolutionBytes s.medium.density then { t with pins.drq := true }
          else State.finish { t with pins.drq := false })
      ∧ (s.InPhase .readTrack .rtXfer e ∨ s.InPhase .writeTrack .wtXfer e → e.be = false → s.commandStep dt e = s)

/-! The medium (20_memory sections 3 and 4, 40_common section 5). -/

/-- A formatted track has exactly `P_TRACK_LEN` bytes: before the first record gap 4a, sync, the index address mark and
gap 1, and after the last record gap 4b; a side the medium lacks reads 0x00 (20_memory R82 to R86, decision D35). The
records between are those of `SectorRecordsStandAtTheirOffsets`. -/
def Obligations.FormattedTrackFillsOneRevolution : Prop :=
  ∀ (m : Medium) (t s : Nat), m.geom.wf m.density = true →
    (trackBytes m t s).length = revolutionBytes m.density
      ∧ (m.geom.sides ≤ s → ∀ p, mediumByte m t s p = 0x00)
      ∧ (s < m.geom.sides → m.density = .mfm →
        (∀ p, p < 146 → mediumByte m t s p =
            (List.replicate 80 0x4E ++ List.replicate 12 0x00 ++ [0xC2, 0xC2, 0xC2, 0xFC]
              ++ List.replicate 50 0x4E).getD p 0)
          ∧ ∀ p, 146 + m.geom.spt * (62 + m.geom.slen + 84) ≤ p → p < 7500 → mediumByte m t s p = 0x4E)
      ∧ (s < m.geom.sides → m.density = .fm →
        (∀ p, p < 73 → mediumByte m t s p =
            (List.replicate 40 0xFF ++ List.replicate 6 0x00 ++ [0xFC] ++ List.replicate 26 0xFF).getD p 0)
          ∧ ∀ p, 73 + m.geom.spt * (33 + m.geom.slen + 27) ≤ p → p < 3750 → mediumByte m t s p = 0xFF)

/-- The record of each sector stands at its offset, byte by byte, in both densities: sync, ID mark, ID body with its
length code, ID CRC, gap 2, sync, data mark, data, data CRC, gap 3 (20_memory R84, R85, R87, R91, R92); the data are the
image's bytes from `((t × G_SIDES + s) × G_SPT + (r − 1)) × G_SLEN` on (R88, R89). The two fields are those that
`OwnIdFieldsCheck` and `OwnDataFieldsCheck` read back. -/
def Obligations.SectorRecordsStandAtTheirOffsets : Prop :=
  ∀ (m : Medium) (t s r : Nat), m.geom.wf m.density = true → s < m.geom.sides → 1 ≤ r → r ≤ m.geom.spt →
    (m.density = .mfm →
      recordStands m t s r (146 + (r - 1) * (62 + m.geom.slen + 84)) [0xA1, 0xA1, 0xA1]
        (List.replicate 12 0x00 ++ [0xA1, 0xA1, 0xA1]) 0x4E (22, 84))
      ∧ (m.density = .fm →
        recordStands m t s r (73 + (r - 1) * (33 + m.geom.slen + 27)) [] (List.replicate 6 0x00) 0xFF (11, 27))

/-- The image a reset loads reads back byte for byte and is in canonical form (20_memory R70, R88; log 5). -/
def Obligations.LoadedImageReadsBack : Prop :=
  ∀ bs : List Byte, Memory.wf (Memory.ofBytes bs) = true
    ∧ (∀ o, (Memory.ofBytes bs).read o = bs.getD o 0x00) ∧ ∀ c ∈ Memory.ofBytes bs, c.1 < bs.length

/-- The detector, case by case: 0x00 lengthens the zero run (and, in MFM, clears the sync count), in MFM 0xA1 counts a sync
byte after a run of at least 6 while fewer than 3 are counted, a mark it looks for is returned only after three sync bytes
(MFM) or a run of at least 6 (FM), and everything else clears both counts. So it finds a mark after a sync field,
whatever state it is in (40_common R175, R176). -/
def Obligations.DetectorFindsMarksAfterSync : Prop :=
  (∀ (q : Search) (b : Byte) (marks : List Byte),
      let sync : Prop := b = 0xA1 ∧ 6 ≤ q.zr ∧ q.sc < 3
      (b = 0x00 → q.detect .mfm b marks = ({ q with zr := q.zr + 1, sc := 0 }, none))
        ∧ (sync → q.detect .mfm b marks = ({ q with sc := q.sc + 1 }, none))
        ∧ (b ≠ 0x00 → ¬ sync → b ∈ marks ∧ q.sc = 3 →
          q.detect .mfm b marks = ({ q with zr := 0, sc := 0 }, some b))
        ∧ (b ≠ 0x00 → ¬ sync → ¬ (b ∈ marks ∧ q.sc = 3) →
          q.detect .mfm b marks = ({ q with zr := 0, sc := 0 }, none))
        ∧ (b = 0x00 → q.detect .fm b marks = ({ q with zr := q.zr + 1 }, none))
        ∧ (b ≠ 0x00 → b ∈ marks ∧ 6 ≤ q.zr → q.detect .fm b marks = ({ q with zr := 0, sc := 0 }, some b))
        ∧ (b ≠ 0x00 → ¬ (b ∈ marks ∧ 6 ≤ q.zr) → q.detect .fm b marks = ({ q with zr := 0, sc := 0 }, none)))
    ∧ (∀ (s : State) (b : Byte) (marks : List Byte),
      s.detect b marks = { s with search := (s.search.detect s.medium.density b marks).1 }
        ∧ s.detected b marks = (s.search.detect s.medium.density b marks).2)
    ∧ ∀ (q : Search) (marks : List Byte) (mark : Byte) (n : Nat), mark ∈ marks → mark ≠ 0x00 → mark ≠ 0xA1 → 6 ≤ n →
      ((fedDetector .mfm marks q (List.replicate n 0x00 ++ [0xA1, 0xA1, 0xA1])).detect .mfm mark marks).2 = some mark
        ∧ ((fedDetector .fm marks q (List.replicate n 0x00)).detect .fm mark marks).2 = some mark

/-- `id_byte(b)`, and an ID field as the medium holds it, from its sync field on. A detected 0xFE starts the collection
with the CRC of the mark prefix; each byte after it goes to the buffer, the first four into the CRC, and the sixth
answers whether the CRC checks (40_common R177). Whatever the detector holds, the sync field and mark of a record start
the collection, and then the six bytes of the field are collected whole and check (42_type2 R251, 20_memory R84, R85,
R87, R91, R92). -/
def Obligations.OwnIdFieldsCheck : Prop :=
  (∀ (s : State) (b : Byte), s.search.amFound = false →
      s.idResult b = none
        ∧ (s.detected b [0xFE] = some 0xFE →
          s.idByte b =
            { s.detect b [0xFE] with
              regs.crc := crc16 (crcPrefix s.medium.density 0xFE)
              search := { (s.detect b [0xFE]).search with amFound := true, idCount := 0 } })
        ∧ (s.detected b [0xFE] = none → s.idByte b = s.detect b [0xFE]))
    ∧ (∀ (s : State) (b : Byte), s.search.amFound = true →
      let t := s.idByte b
      t =
          { s with
            regs.crc := if s.search.idCount < 4 then crcStep s.regs.crc b else s.regs.crc
            search :=
              { s.search with
                idBuf := s.search.idBuf.set s.search.idCount b
                idCount := s.search.idCount + 1
                amFound := decide (s.search.idCount ≠ 5) } }
        ∧ (s.search.idCount = 5 →
          s.idResult b = some (decide (t.regs.crc = crcOfBytes t.search.idBuf.crcHi t.search.idBuf.crcLo)))
        ∧ (s.search.idCount ≠ 5 → s.idResult b = none))
    ∧ (∀ s : State, s.search.amFound = false →
      let found := fedId s (markField s.medium.density 0xFE)
      found.search.amFound = true ∧ found.search.idCount = 0 ∧ found.medium = s.medium
        ∧ found.regs.crc = crc16 (crcPrefix s.medium.density 0xFE))
    ∧ ∀ (s : State) (t sd r : Nat), s.search.amFound = true → s.search.idCount = 0 →
      s.regs.crc = crc16 (crcPrefix s.medium.density 0xFE) →
      let field := fieldBytes s.medium.density 0xFE (idBody s.medium.geom t sd r)
      let u := fedId s (field.take 5)
      let done := fedId s field
      field.length = 6 ∧ u.idResult (field.getD 5 0) = some true
        ∧ done.search.idBuf.track = BitVec.ofNat 8 t ∧ done.search.idBuf.side = BitVec.ofNat 8 sd
        ∧ done.search.idBuf.sector = BitVec.ofNat 8 r
        ∧ done.search.idBuf.lengthCode = lengthCode s.medium.geom.slen
        ∧ done.search.amFound = false

/-- A data field as the medium holds it checks: after its bytes the accumulator is the CRC the medium stores after them,
high byte first, so READ SECTOR reports no CRC error on the medium's own fields (20_memory R91, R92). Which function the
CRC is, `CrcFollowsItsBitwiseDefinition` says. -/
def Obligations.OwnDataFieldsCheck : Prop :=
  ∀ (s : State) (mark : Byte) (data : List Byte), s.regs.crc = crc16 (crcPrefix s.medium.density mark) →
    let field := fieldBytes s.medium.density mark data
    (fedCrc s data).regs.crc = crcOfBytes (field.getD data.length 0) (field.getD (data.length + 1) 0)

/-! Invariants, and rules of the whole machine. -/

/-- The seven invariants of 10_state R54 are kept by every step from every state. -/
def Obligations.StepKeepsTheEntryPointInvariants : Prop :=
  ∀ s t : State, s.Coherent → step s = .next t → t.Coherent

/-- The state after reset has every invariant stated here: those of 10_state R54, soundness, the timer limits, the counter
ranges, the exact rotation. Its geometry and its image are the model's choice (logs 4, 5). -/
def Obligations.ResetHasTheInvariants : Prop :=
  State.reset.Coherent ∧ State.reset.Sound ∧ State.reset.TimersBounded ∧ State.reset.CountersBounded
    ∧ State.reset.Spinning

/-- Every step keeps a state sound: the medium well-formed and canonical, the head on it, `STR` in agreement with the
pins, the context of one command, and a handler for its phase (20_memory R101, 10_state R43, R50, 40_common R156, R167;
the bound on the HLT delay and the canonical form are the model's, logs 9 and 5). -/
def Obligations.StepKeepsStatesSound : Prop :=
  ∀ s t : State, s.Sound → step s = .next t → t.Sound

/-- Every step keeps every timer below its limit (10_state R49). -/
def Obligations.StepKeepsTimersBelowTheirLimits : Prop :=
  ∀ s t : State, s.Sound → s.TimersBounded → step s = .next t → t.TimersBounded

/-- Every step keeps the counters in range, a search with index edges left, and the phase current unfinished: no phase
can overrun its count (10_state R53, 40_common R178, 42_type2, 43_type3). -/
def Obligations.StepKeepsCountersInRange : Prop :=
  ∀ s t : State, s.Sound → s.CountersBounded → step s = .next t → t.CountersBounded

/-- The rotation is exact in every state a step reaches: after a total time T, `rot_ptr` is `floor(T / P_BYTE_TIME_US)`
modulo the track length (60_exceptions R350; R54 bounds the remainder). -/
def Obligations.StepKeepsTheRotationExact : Prop :=
  ∀ s t : State, s.Spinning → step s = .next t → t.Spinning

/-- No fault from a sound state, whatever the call (40_common R182); the faults are the model's, logs 10 and 11. -/
def Obligations.SoundStatesNeverFault : Prop :=
  ∀ s : State, s.Sound → safeOutcome (step s)

/-- The medium is constant from reset to reset (20_memory R93). -/
def Obligations.MediumIsConstantBetweenResets : Prop :=
  ∀ s t : State, step s = .next t → (∀ c rest, s.calls ≠ .reset c :: rest) →
    t.medium = s.medium ∧ ∀ k sd p, mediumByte t.medium k sd p = mediumByte s.medium k sd p

/-- Only a physical step moves the head, one cylinder, in a tick of a stepping phase; or a reset does (41_type1 R207). -/
def Obligations.OnlySteppingMovesTheHead : Prop :=
  ∀ s t : State, step s = .next t → t.head.currentTrack ≠ s.head.currentTrack →
    (∃ c rest, s.calls = .reset c :: rest)
      ∨ ∃ dt rest, s.calls = .advance dt :: rest ∧ s.prog.commandDone = false ∧ s.cmd.phase = .t1Step
        ∧ (t.head.currentTrack = s.head.currentTrack + 1 ∨ t.head.currentTrack + 1 = s.head.currentTrack)

/-- INTRQ is set by exactly the events of 60_exceptions R341: the end of a command in a tick, an armed index condition,
the not-ready abort, FORCE INTERRUPT with I3, an armed READY transition. -/
def Obligations.IntrqIsSetByExactlyTheseEvents : Prop :=
  ∀ s t : State, step s = .next t →
    let ended : Prop :=
      ∃ dt rest, s.calls = .advance dt :: rest ∧ s.prog.commandDone = false ∧ t.prog.commandDone = true
    let index : Prop := ∃ dt rest, s.calls = .advance dt :: rest ∧ (s.tickEvents dt).ie = true ∧ s.cmd.armed.i2 = true
    let notReady : Prop :=
      ∃ v rest, s.calls = .write 0 v :: rest ∧ s.prog.commandDone = true ∧ s.pins.ready = false
        ∧ (classify v = .II ∨ classify v = .III)
    let immediate : Prop := ∃ v rest, s.calls = .write 0 v :: rest ∧ classify v = .IV ∧ v.getLsbD 3 = true
    let transition : Prop :=
      ∃ level rest, s.calls = .setReady level :: rest
        ∧ ((s.pins.ready = false ∧ level = true ∧ s.cmd.armed.i0 = true)
          ∨ (s.pins.ready = true ∧ level = false ∧ s.cmd.armed.i1 = true))
    (s.pins.intrq = false → t.pins.intrq = true → ended ∨ index ∨ notReady ∨ immediate ∨ transition)
      ∧ (ended ∨ index ∨ notReady ∨ immediate ∨ transition → t.pins.intrq = true)

/-- INTRQ is cleared by exactly the events of 60_exceptions R342: a read of port +0, an accepted command that is not
aborted, FORCE INTERRUPT without I3, reset. -/
def Obligations.IntrqIsClearedByExactlyTheseEvents : Prop :=
  ∀ s t : State, step s = .next t →
    let statusRead : Prop := ∃ rest, s.calls = .read 0 :: rest
    let accepted : Prop :=
      ∃ v rest, s.calls = .write 0 v :: rest ∧ s.prog.commandDone = true
        ∧ (classify v = .I ∨ ((classify v = .II ∨ classify v = .III) ∧ s.pins.ready = true))
    let forced : Prop := ∃ v rest, s.calls = .write 0 v :: rest ∧ classify v = .IV ∧ v.getLsbD 3 = false
    let reset : Prop := ∃ c rest, s.calls = .reset c :: rest
    (s.pins.intrq = true → t.pins.intrq = false → statusRead ∨ accepted ∨ forced ∨ reset)
      ∧ (statusRead ∨ accepted ∨ forced ∨ reset → t.pins.intrq = false)

/-- BUSY is set only by an accepted Type I, II or III command; FORCE INTERRUPT never sets it (10_state R55). -/
def Obligations.OnlyAcceptedCommandsSetBusy : Prop :=
  ∀ s t : State, step s = .next t → s.prog.commandDone = true → t.prog.commandDone = false →
    ∃ v rest, s.calls = .write 0 v :: rest ∧ classify v ≠ .IV ∧ (classify v = .I ∨ s.pins.ready = true)
      ∧ t.cmd.cmdType = some (classify v)

/-- What no rule reads has no effect: two states that differ only in the records step alike (10_state R21, R25, R31, R46,
R51, R52, 44_type4 R316, 60_exceptions R353, R356). That `cmd_type` is such a record is an inference (log 23): 10_state
R42 says that the status layout and the DRQ-clearing rules read it, but those rules read `status_layout` (40_common R173)
and `cmd_name` (20_memory R76, R77), which is written together with it (R43). -/
def Obligations.RecordsHaveNoEffect : Prop :=
  ∀ s t s' : State, s.forgetRecords = t.forgetRecords → step s = .next s' →
    ∃ t', step t = .next t' ∧ s'.forgetRecords = t'.forgetRecords

/-- RESTORE always arrives: from its stepping phase, with no armed index condition, some number of ticks brings the head
and `TR` to 0 with the action done (41_type1 R202); one tick does at track 0, and from track N the ticks take N step
intervals, each late by less than one tick (R214). The premise of the bound is that the step timer is not negative,
which `StepKeepsTimersBelowTheirLimits` keeps. -/
def Obligations.RestoreAlwaysArrives : Prop :=
  ∀ (s : State) (dt : Time), s.Sound → s.prog.commandDone = false → s.cmd.cmdName = some .restore →
    s.cmd.phase = .t1Step → s.cmd.armed.i2 = false → 0 < dt → dt ≤ byteMicros s.medium.density →
    let interval := stepMicros s.cmd.flags.rate
    ∃ (n : Nat) (t : State), Sys2Proof.core.run n (s.withTicks n dt) = .next t
      ∧ t.head.currentTrack = 0 ∧ t.regs.tr = 0 ∧ t.prog.commandActionDone = true
      ∧ (s.head.currentTrack = 0 → n = 1)
      ∧ (s.head.currentTrack ≠ 0 → 0 ≤ s.timers.step →
        (n : Time) * dt < (s.head.currentTrack : Time) * (interval + dt))

/-! The CRC (20_memory section 4). -/

/-- `crc_step` shifts the byte in, most significant bit first, by the polynomial 0x1021; `crc16` starts from 0xFFFF and
takes the bytes in order, with no reflection and no final XOR; and the check value of the rule (20_memory R90, whose
start value is the spec's decision D6). A stored CRC has its high byte first (R92). -/
def Obligations.CrcFollowsItsBitwiseDefinition : Prop :=
  (∀ (c : Crc) (b : Byte),
      crcStep c b =
        (List.range 8).foldl (fun c _ => if c.getLsbD 15 then (c <<< 1) ^^^ 0x1021 else c <<< 1)
          (c ^^^ (b.zeroExtend 16 <<< 8)))
    ∧ crc16 [] = 0xFFFF
    ∧ (∀ (bs : List Byte) (b : Byte), crc16 (bs ++ [b]) = crcStep (crc16 bs) b)
    ∧ crc16 [0x31, 0x32, 0x33, 0x34, 0x35, 0x36, 0x37, 0x38, 0x39] = 0x29B1
    ∧ ∀ hi lo : Byte, (crcOfBytes hi lo).toNat = hi.toNat * 256 + lo.toNat
end

