-- ==== Sys2Proof/Laws/State.lean ====
section
/-! SUPPORT. One lemma per field of State per shared operation, so that no proof unfolds a record update: what the
operation writes (true by rfl), and, for the operations that test something, what they never write. -/

namespace Sys2Proof.Machine

variable (s : State)

/-! Operations that test nothing: every field of the state they leave. -/

@[simp] theorem State.statusRefresh_regs : s.statusRefresh.regs = { s.regs with str := s.status } := rfl
@[simp] theorem State.statusRefresh_statusLayout : s.statusRefresh.statusLayout = s.statusLayout := rfl
@[simp] theorem State.statusRefresh_pins : s.statusRefresh.pins = s.pins := rfl
@[simp] theorem State.statusRefresh_cmd : s.statusRefresh.cmd = s.cmd := rfl
@[simp] theorem State.statusRefresh_prog : s.statusRefresh.prog = s.prog := rfl
@[simp] theorem State.statusRefresh_latched : s.statusRefresh.latched = s.latched := rfl
@[simp] theorem State.statusRefresh_timers : s.statusRefresh.timers = s.timers := rfl
@[simp] theorem State.statusRefresh_head : s.statusRefresh.head = s.head := rfl
@[simp] theorem State.statusRefresh_search : s.statusRefresh.search = s.search := rfl
@[simp] theorem State.statusRefresh_medium : s.statusRefresh.medium = s.medium := rfl
@[simp] theorem State.statusRefresh_calls : s.statusRefresh.calls = s.calls := rfl
@[simp] theorem State.statusRefresh_reply : s.statusRefresh.reply = s.reply := rfl
@[simp] theorem State.statusRefresh_auxReads : s.statusRefresh.auxReads = s.auxReads := rfl

@[simp] theorem State.finish_regs : s.finish.regs = s.regs := rfl
@[simp] theorem State.finish_statusLayout : s.finish.statusLayout = s.statusLayout := rfl
@[simp] theorem State.finish_pins : s.finish.pins = { s.pins with intrq := true } := rfl
@[simp] theorem State.finish_cmd : s.finish.cmd = { s.cmd with phase := .idle } := rfl
@[simp] theorem State.finish_prog : s.finish.prog = { s.prog with commandDone := true } := rfl
@[simp] theorem State.finish_latched : s.finish.latched = s.latched := rfl
@[simp] theorem State.finish_timers : s.finish.timers = { s.timers with hldIdle := 0 } := rfl
@[simp] theorem State.finish_head : s.finish.head = s.head := rfl
@[simp] theorem State.finish_search : s.finish.search = s.search := rfl
@[simp] theorem State.finish_medium : s.finish.medium = s.medium := rfl
@[simp] theorem State.finish_calls : s.finish.calls = s.calls := rfl
@[simp] theorem State.finish_reply : s.finish.reply = s.reply := rfl
@[simp] theorem State.finish_auxReads : s.finish.auxReads = s.auxReads := rfl

@[simp] theorem State.terminate_regs : s.terminate.regs = s.regs := rfl
@[simp] theorem State.terminate_statusLayout : s.terminate.statusLayout = s.statusLayout := rfl
@[simp] theorem State.terminate_pins : s.terminate.pins = { s.pins with drq := false } := rfl
@[simp] theorem State.terminate_cmd : s.terminate.cmd = { s.cmd with phase := .idle } := rfl
@[simp] theorem State.terminate_prog : s.terminate.prog = { s.prog with commandDone := true } := rfl
@[simp] theorem State.terminate_latched : s.terminate.latched = s.latched := rfl
@[simp] theorem State.terminate_timers : s.terminate.timers = s.timers := rfl
@[simp] theorem State.terminate_head : s.terminate.head = s.head := rfl
@[simp] theorem State.terminate_search : s.terminate.search = s.search := rfl
@[simp] theorem State.terminate_medium : s.terminate.medium = s.medium := rfl
@[simp] theorem State.terminate_calls : s.terminate.calls = s.calls := rfl
@[simp] theorem State.terminate_reply : s.terminate.reply = s.reply := rfl
@[simp] theorem State.terminate_auxReads : s.terminate.auxReads = s.auxReads := rfl

@[simp] theorem State.startCommon_regs (v : Byte) (n : CmdName) (f : CmdFlags) :
    (s.startCommon v n f).regs =
      { s.regs with cr := v } := rfl
@[simp] theorem State.startCommon_statusLayout (v : Byte) (n : CmdName) (f : CmdFlags) :
    (s.startCommon v n f).statusLayout =
      if n.type = .I then .typeI else .typeIIandIII := rfl
@[simp] theorem State.startCommon_pins (v : Byte) (n : CmdName) (f : CmdFlags) :
    (s.startCommon v n f).pins =
      { s.pins with intrq := false, drq := false } := rfl
@[simp] theorem State.startCommon_cmd (v : Byte) (n : CmdName) (f : CmdFlags) :
    (s.startCommon v n f).cmd =
      { s.cmd with cmdType := some n.type, cmdName := some n, flags := f } := rfl
@[simp] theorem State.startCommon_prog (v : Byte) (n : CmdName) (f : CmdFlags) :
    (s.startCommon v n f).prog =
      { s.prog with
        commandActionDone := false, headSettlingDone := false, eDelayDone := false,
        startByteSet := false, terminateCommand := false } := rfl
@[simp] theorem State.startCommon_latched (v : Byte) (n : CmdName) (f : CmdFlags) :
    (s.startCommon v n f).latched =
      { seekError := false, crcError := false, rnf := false, lostData := false, recordType := false } := rfl
@[simp] theorem State.startCommon_timers (v : Byte) (n : CmdName) (f : CmdFlags) :
    (s.startCommon v n f).timers =
      s.timers := rfl
@[simp] theorem State.startCommon_head (v : Byte) (n : CmdName) (f : CmdFlags) :
    (s.startCommon v n f).head =
      s.head := rfl
@[simp] theorem State.startCommon_search (v : Byte) (n : CmdName) (f : CmdFlags) :
    (s.startCommon v n f).search =
      s.search := rfl
@[simp] theorem State.startCommon_medium (v : Byte) (n : CmdName) (f : CmdFlags) :
    (s.startCommon v n f).medium =
      s.medium := rfl
@[simp] theorem State.startCommon_calls (v : Byte) (n : CmdName) (f : CmdFlags) :
    (s.startCommon v n f).calls =
      s.calls := rfl
@[simp] theorem State.startCommon_reply (v : Byte) (n : CmdName) (f : CmdFlags) :
    (s.startCommon v n f).reply =
      s.reply := rfl
@[simp] theorem State.startCommon_auxReads (v : Byte) (n : CmdName) (f : CmdFlags) :
    (s.startCommon v n f).auxReads =
      s.auxReads := rfl

@[simp] theorem State.setBusy_regs : s.setBusy.regs = s.regs := rfl
@[simp] theorem State.setBusy_statusLayout : s.setBusy.statusLayout = s.statusLayout := rfl
@[simp] theorem State.setBusy_pins : s.setBusy.pins = s.pins := rfl
@[simp] theorem State.setBusy_cmd : s.setBusy.cmd = s.cmd := rfl
@[simp] theorem State.setBusy_prog : s.setBusy.prog = { s.prog with commandDone := false } := rfl
@[simp] theorem State.setBusy_latched : s.setBusy.latched = s.latched := rfl
@[simp] theorem State.setBusy_timers : s.setBusy.timers = s.timers := rfl
@[simp] theorem State.setBusy_head : s.setBusy.head = s.head := rfl
@[simp] theorem State.setBusy_search : s.setBusy.search = s.search := rfl
@[simp] theorem State.setBusy_medium : s.setBusy.medium = s.medium := rfl
@[simp] theorem State.setBusy_calls : s.setBusy.calls = s.calls := rfl
@[simp] theorem State.setBusy_reply : s.setBusy.reply = s.reply := rfl
@[simp] theorem State.setBusy_auxReads : s.setBusy.auxReads = s.auxReads := rfl

@[simp] theorem State.notReadyAbort_regs : s.notReadyAbort.regs = s.regs := rfl
@[simp] theorem State.notReadyAbort_statusLayout : s.notReadyAbort.statusLayout = s.statusLayout := rfl
@[simp] theorem State.notReadyAbort_pins : s.notReadyAbort.pins = { s.pins with intrq := true } := rfl
@[simp] theorem State.notReadyAbort_cmd : s.notReadyAbort.cmd = s.cmd := rfl
@[simp] theorem State.notReadyAbort_prog : s.notReadyAbort.prog = s.prog := rfl
@[simp] theorem State.notReadyAbort_latched : s.notReadyAbort.latched = s.latched := rfl
@[simp] theorem State.notReadyAbort_timers : s.notReadyAbort.timers = s.timers := rfl
@[simp] theorem State.notReadyAbort_head : s.notReadyAbort.head = s.head := rfl
@[simp] theorem State.notReadyAbort_search : s.notReadyAbort.search = s.search := rfl
@[simp] theorem State.notReadyAbort_medium : s.notReadyAbort.medium = s.medium := rfl
@[simp] theorem State.notReadyAbort_calls : s.notReadyAbort.calls = s.calls := rfl
@[simp] theorem State.notReadyAbort_reply : s.notReadyAbort.reply = s.reply := rfl
@[simp] theorem State.notReadyAbort_auxReads : s.notReadyAbort.auxReads = s.auxReads := rfl

@[simp] theorem State.deliver_regs (b : Byte) : (s.deliver b).regs = { s.regs with dsr := b, dr := b } := rfl
@[simp] theorem State.deliver_statusLayout (b : Byte) : (s.deliver b).statusLayout = s.statusLayout := rfl
@[simp] theorem State.deliver_pins (b : Byte) : (s.deliver b).pins = { s.pins with drq := true } := rfl
@[simp] theorem State.deliver_cmd (b : Byte) : (s.deliver b).cmd = s.cmd := rfl
@[simp] theorem State.deliver_prog (b : Byte) : (s.deliver b).prog = s.prog := rfl
@[simp] theorem State.deliver_latched (b : Byte) :
    (s.deliver b).latched =
      { s.latched with lostData := s.latched.lostData || s.pins.drq } := rfl
@[simp] theorem State.deliver_timers (b : Byte) : (s.deliver b).timers = s.timers := rfl
@[simp] theorem State.deliver_head (b : Byte) : (s.deliver b).head = s.head := rfl
@[simp] theorem State.deliver_search (b : Byte) : (s.deliver b).search = s.search := rfl
@[simp] theorem State.deliver_medium (b : Byte) : (s.deliver b).medium = s.medium := rfl
@[simp] theorem State.deliver_calls (b : Byte) : (s.deliver b).calls = s.calls := rfl
@[simp] theorem State.deliver_reply (b : Byte) : (s.deliver b).reply = s.reply := rfl
@[simp] theorem State.deliver_auxReads (b : Byte) : (s.deliver b).auxReads = s.auxReads := rfl

@[simp] theorem State.take_regs : s.take.regs = { s.regs with dsr := s.takenByte } := rfl
@[simp] theorem State.take_statusLayout : s.take.statusLayout = s.statusLayout := rfl
@[simp] theorem State.take_pins : s.take.pins = s.pins := rfl
@[simp] theorem State.take_cmd : s.take.cmd = s.cmd := rfl
@[simp] theorem State.take_prog : s.take.prog = s.prog := rfl
@[simp] theorem State.take_latched :
    s.take.latched =
      { s.latched with lostData := s.latched.lostData || s.pins.drq } := rfl
@[simp] theorem State.take_timers : s.take.timers = s.timers := rfl
@[simp] theorem State.take_head : s.take.head = s.head := rfl
@[simp] theorem State.take_search : s.take.search = s.search := rfl
@[simp] theorem State.take_medium : s.take.medium = s.medium := rfl
@[simp] theorem State.take_calls : s.take.calls = s.calls := rfl
@[simp] theorem State.take_reply : s.take.reply = s.reply := rfl
@[simp] theorem State.take_auxReads : s.take.auxReads = s.auxReads := rfl

@[simp] theorem State.crcByte_regs (b : Byte) :
    (s.crcByte b).regs =
      { s.regs with crc := crcStep s.regs.crc b } := rfl
@[simp] theorem State.crcByte_statusLayout (b : Byte) : (s.crcByte b).statusLayout = s.statusLayout := rfl
@[simp] theorem State.crcByte_pins (b : Byte) : (s.crcByte b).pins = s.pins := rfl
@[simp] theorem State.crcByte_cmd (b : Byte) : (s.crcByte b).cmd = s.cmd := rfl
@[simp] theorem State.crcByte_prog (b : Byte) : (s.crcByte b).prog = s.prog := rfl
@[simp] theorem State.crcByte_latched (b : Byte) : (s.crcByte b).latched = s.latched := rfl
@[simp] theorem State.crcByte_timers (b : Byte) : (s.crcByte b).timers = s.timers := rfl
@[simp] theorem State.crcByte_head (b : Byte) : (s.crcByte b).head = s.head := rfl
@[simp] theorem State.crcByte_search (b : Byte) : (s.crcByte b).search = s.search := rfl
@[simp] theorem State.crcByte_medium (b : Byte) : (s.crcByte b).medium = s.medium := rfl
@[simp] theorem State.crcByte_calls (b : Byte) : (s.crcByte b).calls = s.calls := rfl
@[simp] theorem State.crcByte_reply (b : Byte) : (s.crcByte b).reply = s.reply := rfl
@[simp] theorem State.crcByte_auxReads (b : Byte) : (s.crcByte b).auxReads = s.auxReads := rfl

@[simp] theorem State.crcMark_regs (m : Byte) :
    (s.crcMark m).regs =
      { s.regs with crc := crc16 (markPrefix s.medium.density m) } := rfl
@[simp] theorem State.crcMark_statusLayout (m : Byte) : (s.crcMark m).statusLayout = s.statusLayout := rfl
@[simp] theorem State.crcMark_pins (m : Byte) : (s.crcMark m).pins = s.pins := rfl
@[simp] theorem State.crcMark_cmd (m : Byte) : (s.crcMark m).cmd = s.cmd := rfl
@[simp] theorem State.crcMark_prog (m : Byte) : (s.crcMark m).prog = s.prog := rfl
@[simp] theorem State.crcMark_latched (m : Byte) : (s.crcMark m).latched = s.latched := rfl
@[simp] theorem State.crcMark_timers (m : Byte) : (s.crcMark m).timers = s.timers := rfl
@[simp] theorem State.crcMark_head (m : Byte) : (s.crcMark m).head = s.head := rfl
@[simp] theorem State.crcMark_search (m : Byte) : (s.crcMark m).search = s.search := rfl
@[simp] theorem State.crcMark_medium (m : Byte) : (s.crcMark m).medium = s.medium := rfl
@[simp] theorem State.crcMark_calls (m : Byte) : (s.crcMark m).calls = s.calls := rfl
@[simp] theorem State.crcMark_reply (m : Byte) : (s.crcMark m).reply = s.reply := rfl
@[simp] theorem State.crcMark_auxReads (m : Byte) : (s.crcMark m).auxReads = s.auxReads := rfl

@[simp] theorem State.detReset_regs : s.detReset.regs = s.regs := rfl
@[simp] theorem State.detReset_statusLayout : s.detReset.statusLayout = s.statusLayout := rfl
@[simp] theorem State.detReset_pins : s.detReset.pins = s.pins := rfl
@[simp] theorem State.detReset_cmd : s.detReset.cmd = s.cmd := rfl
@[simp] theorem State.detReset_prog : s.detReset.prog = s.prog := rfl
@[simp] theorem State.detReset_latched : s.detReset.latched = s.latched := rfl
@[simp] theorem State.detReset_timers : s.detReset.timers = s.timers := rfl
@[simp] theorem State.detReset_head : s.detReset.head = s.head := rfl
@[simp] theorem State.detReset_search : s.detReset.search = s.search.detReset := rfl
@[simp] theorem State.detReset_medium : s.detReset.medium = s.medium := rfl
@[simp] theorem State.detReset_calls : s.detReset.calls = s.calls := rfl
@[simp] theorem State.detReset_reply : s.detReset.reply = s.reply := rfl
@[simp] theorem State.detReset_auxReads : s.detReset.auxReads = s.auxReads := rfl

@[simp] theorem State.searchStart_regs : s.searchStart.regs = s.regs := rfl
@[simp] theorem State.searchStart_statusLayout : s.searchStart.statusLayout = s.statusLayout := rfl
@[simp] theorem State.searchStart_pins : s.searchStart.pins = s.pins := rfl
@[simp] theorem State.searchStart_cmd : s.searchStart.cmd = s.cmd := rfl
@[simp] theorem State.searchStart_prog : s.searchStart.prog = s.prog := rfl
@[simp] theorem State.searchStart_latched : s.searchStart.latched = s.latched := rfl
@[simp] theorem State.searchStart_timers : s.searchStart.timers = s.timers := rfl
@[simp] theorem State.searchStart_head : s.searchStart.head = s.head := rfl
@[simp] theorem State.searchStart_search :
    s.searchStart.search =
      { s.search.detReset with amFound := false, idCount := 0, indexCount := 0 } := rfl
@[simp] theorem State.searchStart_medium : s.searchStart.medium = s.medium := rfl
@[simp] theorem State.searchStart_calls : s.searchStart.calls = s.calls := rfl
@[simp] theorem State.searchStart_reply : s.searchStart.reply = s.reply := rfl
@[simp] theorem State.searchStart_auxReads : s.searchStart.auxReads = s.auxReads := rfl

@[simp] theorem State.detect_regs (b : Byte) (ms : List Byte) : (s.detect b ms).regs = s.regs := rfl
@[simp] theorem State.detect_statusLayout (b : Byte) (ms : List Byte) :
    (s.detect b ms).statusLayout =
      s.statusLayout := rfl
@[simp] theorem State.detect_pins (b : Byte) (ms : List Byte) : (s.detect b ms).pins = s.pins := rfl
@[simp] theorem State.detect_cmd (b : Byte) (ms : List Byte) : (s.detect b ms).cmd = s.cmd := rfl
@[simp] theorem State.detect_prog (b : Byte) (ms : List Byte) : (s.detect b ms).prog = s.prog := rfl
@[simp] theorem State.detect_latched (b : Byte) (ms : List Byte) : (s.detect b ms).latched = s.latched := rfl
@[simp] theorem State.detect_timers (b : Byte) (ms : List Byte) : (s.detect b ms).timers = s.timers := rfl
@[simp] theorem State.detect_head (b : Byte) (ms : List Byte) : (s.detect b ms).head = s.head := rfl
@[simp] theorem State.detect_search (b : Byte) (ms : List Byte) :
    (s.detect b ms).search =
      (s.search.detect s.medium.density b ms).1 := rfl
@[simp] theorem State.detect_medium (b : Byte) (ms : List Byte) : (s.detect b ms).medium = s.medium := rfl
@[simp] theorem State.detect_calls (b : Byte) (ms : List Byte) : (s.detect b ms).calls = s.calls := rfl
@[simp] theorem State.detect_reply (b : Byte) (ms : List Byte) : (s.detect b ms).reply = s.reply := rfl
@[simp] theorem State.detect_auxReads (b : Byte) (ms : List Byte) : (s.detect b ms).auxReads = s.auxReads := rfl

@[simp] theorem State.idCollect_regs (b : Byte) :
    (s.idCollect b).regs =
      { s.regs with crc := if s.search.idCount + 1 ≤ 4 then crcStep s.regs.crc b else s.regs.crc } := rfl
@[simp] theorem State.idCollect_statusLayout (b : Byte) : (s.idCollect b).statusLayout = s.statusLayout := rfl
@[simp] theorem State.idCollect_pins (b : Byte) : (s.idCollect b).pins = s.pins := rfl
@[simp] theorem State.idCollect_cmd (b : Byte) : (s.idCollect b).cmd = s.cmd := rfl
@[simp] theorem State.idCollect_prog (b : Byte) : (s.idCollect b).prog = s.prog := rfl
@[simp] theorem State.idCollect_latched (b : Byte) : (s.idCollect b).latched = s.latched := rfl
@[simp] theorem State.idCollect_timers (b : Byte) : (s.idCollect b).timers = s.timers := rfl
@[simp] theorem State.idCollect_head (b : Byte) : (s.idCollect b).head = s.head := rfl
@[simp] theorem State.idCollect_search (b : Byte) :
    (s.idCollect b).search =
      { s.search with
        idBuf := s.search.idBuf.set s.search.idCount b, idCount := s.search.idCount + 1,
        amFound := if s.search.idCount + 1 = 6 then false else s.search.amFound } := rfl
@[simp] theorem State.idCollect_medium (b : Byte) : (s.idCollect b).medium = s.medium := rfl
@[simp] theorem State.idCollect_calls (b : Byte) : (s.idCollect b).calls = s.calls := rfl
@[simp] theorem State.idCollect_reply (b : Byte) : (s.idCollect b).reply = s.reply := rfl
@[simp] theorem State.idCollect_auxReads (b : Byte) : (s.idCollect b).auxReads = s.auxReads := rfl

@[simp] theorem State.indexEdge_regs : s.indexEdge.regs = s.regs := rfl
@[simp] theorem State.indexEdge_statusLayout : s.indexEdge.statusLayout = s.statusLayout := rfl
@[simp] theorem State.indexEdge_pins : s.indexEdge.pins = { s.pins with indexPulse := true } := rfl
@[simp] theorem State.indexEdge_cmd : s.indexEdge.cmd = s.cmd := rfl
@[simp] theorem State.indexEdge_prog : s.indexEdge.prog = s.prog := rfl
@[simp] theorem State.indexEdge_latched : s.indexEdge.latched = s.latched := rfl
@[simp] theorem State.indexEdge_timers : s.indexEdge.timers = { s.timers with indexWidth := 0, indexEnc := 0 } := rfl
@[simp] theorem State.indexEdge_head : s.indexEdge.head = s.head := rfl
@[simp] theorem State.indexEdge_search : s.indexEdge.search = s.search := rfl
@[simp] theorem State.indexEdge_medium : s.indexEdge.medium = s.medium := rfl
@[simp] theorem State.indexEdge_calls : s.indexEdge.calls = s.calls := rfl
@[simp] theorem State.indexEdge_reply : s.indexEdge.reply = s.reply := rfl
@[simp] theorem State.indexEdge_auxReads : s.indexEdge.auxReads = s.auxReads := rfl

@[simp] theorem State.statusStep_regs : s.statusStep.regs = { s.regs with str := s.status } := rfl
@[simp] theorem State.statusStep_statusLayout : s.statusStep.statusLayout = s.statusLayout := rfl
@[simp] theorem State.statusStep_pins :
    s.statusStep.pins =
      { s.pins with tg43 := decide (43 < s.regs.tr.toNat) } := rfl
@[simp] theorem State.statusStep_cmd : s.statusStep.cmd = s.cmd := rfl
@[simp] theorem State.statusStep_prog : s.statusStep.prog = s.prog := rfl
@[simp] theorem State.statusStep_latched : s.statusStep.latched = s.latched := rfl
@[simp] theorem State.statusStep_timers : s.statusStep.timers = s.timers := rfl
@[simp] theorem State.statusStep_head : s.statusStep.head = s.head := rfl
@[simp] theorem State.statusStep_search : s.statusStep.search = s.search := rfl
@[simp] theorem State.statusStep_medium : s.statusStep.medium = s.medium := rfl
@[simp] theorem State.statusStep_calls : s.statusStep.calls = s.calls := rfl
@[simp] theorem State.statusStep_reply : s.statusStep.reply = s.reply := rfl
@[simp] theorem State.statusStep_auxReads : s.statusStep.auxReads = s.auxReads := rfl

@[simp] theorem State.readAddressByte_regs (b : Byte) :
    (s.readAddressByte b).regs =
      { s.regs with dsr := b, dr := b, crc := if s.search.xferCount + 1 ≤ 4 then crcStep s.regs.crc b else s.regs.crc } := rfl
@[simp] theorem State.readAddressByte_statusLayout (b : Byte) :
    (s.readAddressByte b).statusLayout =
      s.statusLayout := rfl
@[simp] theorem State.readAddressByte_pins (b : Byte) :
    (s.readAddressByte b).pins =
      { s.pins with drq := true } := rfl
@[simp] theorem State.readAddressByte_cmd (b : Byte) : (s.readAddressByte b).cmd = s.cmd := rfl
@[simp] theorem State.readAddressByte_prog (b : Byte) : (s.readAddressByte b).prog = s.prog := rfl
@[simp] theorem State.readAddressByte_latched (b : Byte) :
    (s.readAddressByte b).latched =
      { s.latched with lostData := s.latched.lostData || s.pins.drq } := rfl
@[simp] theorem State.readAddressByte_timers (b : Byte) : (s.readAddressByte b).timers = s.timers := rfl
@[simp] theorem State.readAddressByte_head (b : Byte) : (s.readAddressByte b).head = s.head := rfl
@[simp] theorem State.readAddressByte_search (b : Byte) :
    (s.readAddressByte b).search =
      { s.search with idBuf := s.search.idBuf.set s.search.xferCount b, xferCount := s.search.xferCount + 1 } := rfl
@[simp] theorem State.readAddressByte_medium (b : Byte) : (s.readAddressByte b).medium = s.medium := rfl
@[simp] theorem State.readAddressByte_calls (b : Byte) : (s.readAddressByte b).calls = s.calls := rfl
@[simp] theorem State.readAddressByte_reply (b : Byte) : (s.readAddressByte b).reply = s.reply := rfl
@[simp] theorem State.readAddressByte_auxReads (b : Byte) : (s.readAddressByte b).auxReads = s.auxReads := rfl

@[simp] theorem State.readAddressEnd_regs : s.readAddressEnd.regs = { s.regs with sr := s.search.idBuf.track } := rfl
@[simp] theorem State.readAddressEnd_statusLayout : s.readAddressEnd.statusLayout = s.statusLayout := rfl
@[simp] theorem State.readAddressEnd_pins : s.readAddressEnd.pins = { s.pins with intrq := true } := rfl
@[simp] theorem State.readAddressEnd_cmd : s.readAddressEnd.cmd = { s.cmd with phase := .idle } := rfl
@[simp] theorem State.readAddressEnd_prog : s.readAddressEnd.prog = { s.prog with commandDone := true } := rfl
@[simp] theorem State.readAddressEnd_latched :
    s.readAddressEnd.latched =
      { s.latched with crcError := s.latched.crcError || decide (s.regs.crc ≠ s.search.idBuf.crc) } := rfl
@[simp] theorem State.readAddressEnd_timers : s.readAddressEnd.timers = { s.timers with hldIdle := 0 } := rfl
@[simp] theorem State.readAddressEnd_head : s.readAddressEnd.head = s.head := rfl
@[simp] theorem State.readAddressEnd_search : s.readAddressEnd.search = s.search := rfl
@[simp] theorem State.readAddressEnd_medium : s.readAddressEnd.medium = s.medium := rfl
@[simp] theorem State.readAddressEnd_calls : s.readAddressEnd.calls = s.calls := rfl
@[simp] theorem State.readAddressEnd_reply : s.readAddressEnd.reply = s.reply := rfl
@[simp] theorem State.readAddressEnd_auxReads : s.readAddressEnd.auxReads = s.auxReads := rfl

@[simp] theorem State.takeCall_regs (rest : List Call) : (s.takeCall rest).regs = s.regs := rfl
@[simp] theorem State.takeCall_statusLayout (rest : List Call) :
    (s.takeCall rest).statusLayout =
      s.statusLayout := rfl
@[simp] theorem State.takeCall_pins (rest : List Call) : (s.takeCall rest).pins = s.pins := rfl
@[simp] theorem State.takeCall_cmd (rest : List Call) : (s.takeCall rest).cmd = s.cmd := rfl
@[simp] theorem State.takeCall_prog (rest : List Call) : (s.takeCall rest).prog = s.prog := rfl
@[simp] theorem State.takeCall_latched (rest : List Call) : (s.takeCall rest).latched = s.latched := rfl
@[simp] theorem State.takeCall_timers (rest : List Call) : (s.takeCall rest).timers = s.timers := rfl
@[simp] theorem State.takeCall_head (rest : List Call) : (s.takeCall rest).head = s.head := rfl
@[simp] theorem State.takeCall_search (rest : List Call) : (s.takeCall rest).search = s.search := rfl
@[simp] theorem State.takeCall_medium (rest : List Call) : (s.takeCall rest).medium = s.medium := rfl
@[simp] theorem State.takeCall_calls (rest : List Call) : (s.takeCall rest).calls = rest := rfl
@[simp] theorem State.takeCall_reply (rest : List Call) : (s.takeCall rest).reply = .nothing := rfl
@[simp] theorem State.takeCall_auxReads (rest : List Call) : (s.takeCall rest).auxReads = s.auxReads := rfl

@[simp] theorem State.pushCommand_regs (w : Nat) : (s.pushCommand w).regs = s.regs := rfl
@[simp] theorem State.pushCommand_statusLayout (w : Nat) : (s.pushCommand w).statusLayout = s.statusLayout := rfl
@[simp] theorem State.pushCommand_pins (w : Nat) : (s.pushCommand w).pins = s.pins := rfl
@[simp] theorem State.pushCommand_cmd (w : Nat) : (s.pushCommand w).cmd = s.cmd := rfl
@[simp] theorem State.pushCommand_prog (w : Nat) : (s.pushCommand w).prog = s.prog := rfl
@[simp] theorem State.pushCommand_latched (w : Nat) : (s.pushCommand w).latched = s.latched := rfl
@[simp] theorem State.pushCommand_timers (w : Nat) : (s.pushCommand w).timers = s.timers := rfl
@[simp] theorem State.pushCommand_head (w : Nat) : (s.pushCommand w).head = s.head := rfl
@[simp] theorem State.pushCommand_search (w : Nat) : (s.pushCommand w).search = s.search := rfl
@[simp] theorem State.pushCommand_medium (w : Nat) : (s.pushCommand w).medium = s.medium := rfl
@[simp] theorem State.pushCommand_calls (w : Nat) :
    (s.pushCommand w).calls =
      .write 0 (BitVec.ofNat 8 w) :: s.calls := rfl
@[simp] theorem State.pushCommand_reply (w : Nat) : (s.pushCommand w).reply = s.reply := rfl
@[simp] theorem State.pushCommand_auxReads (w : Nat) : (s.pushCommand w).auxReads = s.auxReads := rfl

/-! Operations that test something: the fields no branch writes. -/

@[simp] theorem State.hldSet_regs : s.hldSet.regs = s.regs := by unfold State.hldSet; split <;> rfl
@[simp] theorem State.hldSet_statusLayout : s.hldSet.statusLayout = s.statusLayout := by unfold State.hldSet; split <;> rfl
@[simp] theorem State.hldSet_cmd : s.hldSet.cmd = s.cmd := by unfold State.hldSet; split <;> rfl
@[simp] theorem State.hldSet_prog : s.hldSet.prog = s.prog := by unfold State.hldSet; split <;> rfl
@[simp] theorem State.hldSet_latched : s.hldSet.latched = s.latched := by unfold State.hldSet; split <;> rfl
@[simp] theorem State.hldSet_head : s.hldSet.head = s.head := by unfold State.hldSet; split <;> rfl
@[simp] theorem State.hldSet_search : s.hldSet.search = s.search := by unfold State.hldSet; split <;> rfl
@[simp] theorem State.hldSet_medium : s.hldSet.medium = s.medium := by unfold State.hldSet; split <;> rfl
@[simp] theorem State.hldSet_calls : s.hldSet.calls = s.calls := by unfold State.hldSet; split <;> rfl
@[simp] theorem State.hldSet_reply : s.hldSet.reply = s.reply := by unfold State.hldSet; split <;> rfl
@[simp] theorem State.hldSet_auxReads : s.hldSet.auxReads = s.auxReads := by unfold State.hldSet; split <;> rfl

@[simp] theorem State.headLoadAtStart_regs : s.headLoadAtStart.regs = s.regs := by unfold State.headLoadAtStart; split <;> simp
@[simp] theorem State.headLoadAtStart_statusLayout : s.headLoadAtStart.statusLayout = s.statusLayout := by unfold State.headLoadAtStart; split <;> simp
@[simp] theorem State.headLoadAtStart_cmd : s.headLoadAtStart.cmd = s.cmd := by unfold State.headLoadAtStart; split <;> simp
@[simp] theorem State.headLoadAtStart_prog : s.headLoadAtStart.prog = s.prog := by unfold State.headLoadAtStart; split <;> simp
@[simp] theorem State.headLoadAtStart_latched : s.headLoadAtStart.latched = s.latched := by unfold State.headLoadAtStart; split <;> simp
@[simp] theorem State.headLoadAtStart_head : s.headLoadAtStart.head = s.head := by unfold State.headLoadAtStart; split <;> simp
@[simp] theorem State.headLoadAtStart_search : s.headLoadAtStart.search = s.search := by unfold State.headLoadAtStart; split <;> simp
@[simp] theorem State.headLoadAtStart_medium : s.headLoadAtStart.medium = s.medium := by unfold State.headLoadAtStart; split <;> simp
@[simp] theorem State.headLoadAtStart_calls : s.headLoadAtStart.calls = s.calls := by unfold State.headLoadAtStart; split <;> simp
@[simp] theorem State.headLoadAtStart_reply : s.headLoadAtStart.reply = s.reply := by unfold State.headLoadAtStart; split <;> simp
@[simp] theorem State.headLoadAtStart_auxReads : s.headLoadAtStart.auxReads = s.auxReads := by unfold State.headLoadAtStart; split <;> simp

@[simp] theorem State.type1Setup_regs (d : Bool) : (s.type1Setup d).regs = s.regs := by simp [State.type1Setup]
@[simp] theorem State.type1Setup_statusLayout (d : Bool) : (s.type1Setup d).statusLayout = s.statusLayout := by simp [State.type1Setup]
@[simp] theorem State.type1Setup_prog (d : Bool) : (s.type1Setup d).prog = s.prog := by simp [State.type1Setup]
@[simp] theorem State.type1Setup_latched (d : Bool) : (s.type1Setup d).latched = s.latched := by simp [State.type1Setup]
@[simp] theorem State.type1Setup_head (d : Bool) : (s.type1Setup d).head = s.head := by simp [State.type1Setup]
@[simp] theorem State.type1Setup_search (d : Bool) : (s.type1Setup d).search = s.search := by simp [State.type1Setup]
@[simp] theorem State.type1Setup_medium (d : Bool) : (s.type1Setup d).medium = s.medium := by simp [State.type1Setup]
@[simp] theorem State.type1Setup_calls (d : Bool) : (s.type1Setup d).calls = s.calls := by simp [State.type1Setup]
@[simp] theorem State.type1Setup_reply (d : Bool) : (s.type1Setup d).reply = s.reply := by simp [State.type1Setup]
@[simp] theorem State.type1Setup_auxReads (d : Bool) : (s.type1Setup d).auxReads = s.auxReads := by simp [State.type1Setup]

@[simp] theorem State.type23Setup_regs : s.type23Setup.regs = s.regs := by simp [State.type23Setup]
@[simp] theorem State.type23Setup_statusLayout : s.type23Setup.statusLayout = s.statusLayout := by simp [State.type23Setup]
@[simp] theorem State.type23Setup_prog : s.type23Setup.prog = s.prog := by simp [State.type23Setup]
@[simp] theorem State.type23Setup_latched : s.type23Setup.latched = s.latched := by simp [State.type23Setup]
@[simp] theorem State.type23Setup_head : s.type23Setup.head = s.head := by simp [State.type23Setup]
@[simp] theorem State.type23Setup_search : s.type23Setup.search = s.search := by simp [State.type23Setup]
@[simp] theorem State.type23Setup_medium : s.type23Setup.medium = s.medium := by simp [State.type23Setup]
@[simp] theorem State.type23Setup_calls : s.type23Setup.calls = s.calls := by simp [State.type23Setup]
@[simp] theorem State.type23Setup_reply : s.type23Setup.reply = s.reply := by simp [State.type23Setup]
@[simp] theorem State.type23Setup_auxReads : s.type23Setup.auxReads = s.auxReads := by simp [State.type23Setup]

@[simp] theorem State.fireCondition_regs : s.fireCondition.regs = s.regs := by unfold State.fireCondition; dsimp only; split <;> rfl
@[simp] theorem State.fireCondition_statusLayout : s.fireCondition.statusLayout = s.statusLayout := by unfold State.fireCondition; dsimp only; split <;> rfl
@[simp] theorem State.fireCondition_latched : s.fireCondition.latched = s.latched := by unfold State.fireCondition; dsimp only; split <;> rfl
@[simp] theorem State.fireCondition_timers : s.fireCondition.timers = s.timers := by unfold State.fireCondition; dsimp only; split <;> rfl
@[simp] theorem State.fireCondition_head : s.fireCondition.head = s.head := by unfold State.fireCondition; dsimp only; split <;> rfl
@[simp] theorem State.fireCondition_search : s.fireCondition.search = s.search := by unfold State.fireCondition; dsimp only; split <;> rfl
@[simp] theorem State.fireCondition_medium : s.fireCondition.medium = s.medium := by unfold State.fireCondition; dsimp only; split <;> rfl
@[simp] theorem State.fireCondition_calls : s.fireCondition.calls = s.calls := by unfold State.fireCondition; dsimp only; split <;> rfl
@[simp] theorem State.fireCondition_reply : s.fireCondition.reply = s.reply := by unfold State.fireCondition; dsimp only; split <;> rfl
@[simp] theorem State.fireCondition_auxReads : s.fireCondition.auxReads = s.auxReads := by unfold State.fireCondition; dsimp only; split <;> rfl

@[simp] theorem State.setImageOffset_regs : s.setImageOffset.regs = s.regs := by unfold State.setImageOffset; split <;> rfl
@[simp] theorem State.setImageOffset_statusLayout : s.setImageOffset.statusLayout = s.statusLayout := by unfold State.setImageOffset; split <;> rfl
@[simp] theorem State.setImageOffset_pins : s.setImageOffset.pins = s.pins := by unfold State.setImageOffset; split <;> rfl
@[simp] theorem State.setImageOffset_cmd : s.setImageOffset.cmd = s.cmd := by unfold State.setImageOffset; split <;> rfl
@[simp] theorem State.setImageOffset_prog : s.setImageOffset.prog = s.prog := by unfold State.setImageOffset; split <;> rfl
@[simp] theorem State.setImageOffset_latched : s.setImageOffset.latched = s.latched := by unfold State.setImageOffset; split <;> rfl
@[simp] theorem State.setImageOffset_timers : s.setImageOffset.timers = s.timers := by unfold State.setImageOffset; split <;> rfl
@[simp] theorem State.setImageOffset_search : s.setImageOffset.search = s.search := by unfold State.setImageOffset; split <;> rfl
@[simp] theorem State.setImageOffset_medium : s.setImageOffset.medium = s.medium := by unfold State.setImageOffset; split <;> rfl
@[simp] theorem State.setImageOffset_calls : s.setImageOffset.calls = s.calls := by unfold State.setImageOffset; split <;> rfl
@[simp] theorem State.setImageOffset_reply : s.setImageOffset.reply = s.reply := by unfold State.setImageOffset; split <;> rfl
@[simp] theorem State.setImageOffset_auxReads : s.setImageOffset.auxReads = s.auxReads := by unfold State.setImageOffset; split <;> rfl

@[simp] theorem State.indexWidthStep_regs (dt : Time) : (s.indexWidthStep dt).regs = s.regs := by unfold State.indexWidthStep; (repeat' split) <;> rfl
@[simp] theorem State.indexWidthStep_statusLayout (dt : Time) : (s.indexWidthStep dt).statusLayout = s.statusLayout := by unfold State.indexWidthStep; (repeat' split) <;> rfl
@[simp] theorem State.indexWidthStep_cmd (dt : Time) : (s.indexWidthStep dt).cmd = s.cmd := by unfold State.indexWidthStep; (repeat' split) <;> rfl
@[simp] theorem State.indexWidthStep_prog (dt : Time) : (s.indexWidthStep dt).prog = s.prog := by unfold State.indexWidthStep; (repeat' split) <;> rfl
@[simp] theorem State.indexWidthStep_latched (dt : Time) : (s.indexWidthStep dt).latched = s.latched := by unfold State.indexWidthStep; (repeat' split) <;> rfl
@[simp] theorem State.indexWidthStep_head (dt : Time) : (s.indexWidthStep dt).head = s.head := by unfold State.indexWidthStep; (repeat' split) <;> rfl
@[simp] theorem State.indexWidthStep_search (dt : Time) : (s.indexWidthStep dt).search = s.search := by unfold State.indexWidthStep; (repeat' split) <;> rfl
@[simp] theorem State.indexWidthStep_medium (dt : Time) : (s.indexWidthStep dt).medium = s.medium := by unfold State.indexWidthStep; (repeat' split) <;> rfl
@[simp] theorem State.indexWidthStep_calls (dt : Time) : (s.indexWidthStep dt).calls = s.calls := by unfold State.indexWidthStep; (repeat' split) <;> rfl
@[simp] theorem State.indexWidthStep_reply (dt : Time) : (s.indexWidthStep dt).reply = s.reply := by unfold State.indexWidthStep; (repeat' split) <;> rfl
@[simp] theorem State.indexWidthStep_auxReads (dt : Time) : (s.indexWidthStep dt).auxReads = s.auxReads := by unfold State.indexWidthStep; (repeat' split) <;> rfl

@[simp] theorem State.rotate_regs (dt : Time) : (s.rotate dt).regs = s.regs := by unfold State.rotate; split <;> rfl
@[simp] theorem State.rotate_statusLayout (dt : Time) : (s.rotate dt).statusLayout = s.statusLayout := by unfold State.rotate; split <;> rfl
@[simp] theorem State.rotate_pins (dt : Time) : (s.rotate dt).pins = s.pins := by unfold State.rotate; split <;> rfl
@[simp] theorem State.rotate_cmd (dt : Time) : (s.rotate dt).cmd = s.cmd := by unfold State.rotate; split <;> rfl
@[simp] theorem State.rotate_prog (dt : Time) : (s.rotate dt).prog = s.prog := by unfold State.rotate; split <;> rfl
@[simp] theorem State.rotate_latched (dt : Time) : (s.rotate dt).latched = s.latched := by unfold State.rotate; split <;> rfl
@[simp] theorem State.rotate_search (dt : Time) : (s.rotate dt).search = s.search := by unfold State.rotate; split <;> rfl
@[simp] theorem State.rotate_medium (dt : Time) : (s.rotate dt).medium = s.medium := by unfold State.rotate; split <;> rfl
@[simp] theorem State.rotate_calls (dt : Time) : (s.rotate dt).calls = s.calls := by unfold State.rotate; split <;> rfl
@[simp] theorem State.rotate_reply (dt : Time) : (s.rotate dt).reply = s.reply := by unfold State.rotate; split <;> rfl
@[simp] theorem State.rotate_auxReads (dt : Time) : (s.rotate dt).auxReads = s.auxReads := by unfold State.rotate; split <;> rfl

@[simp] theorem State.timingStep_regs (dt : Time) : (s.timingStep dt).regs = s.regs := by unfold State.timingStep; dsimp only; split <;> simp
@[simp] theorem State.timingStep_statusLayout (dt : Time) : (s.timingStep dt).statusLayout = s.statusLayout := by unfold State.timingStep; dsimp only; split <;> simp
@[simp] theorem State.timingStep_cmd (dt : Time) : (s.timingStep dt).cmd = s.cmd := by unfold State.timingStep; dsimp only; split <;> simp
@[simp] theorem State.timingStep_prog (dt : Time) : (s.timingStep dt).prog = s.prog := by unfold State.timingStep; dsimp only; split <;> simp
@[simp] theorem State.timingStep_latched (dt : Time) : (s.timingStep dt).latched = s.latched := by unfold State.timingStep; dsimp only; split <;> simp
@[simp] theorem State.timingStep_search (dt : Time) : (s.timingStep dt).search = s.search := by unfold State.timingStep; dsimp only; split <;> simp
@[simp] theorem State.timingStep_medium (dt : Time) : (s.timingStep dt).medium = s.medium := by unfold State.timingStep; dsimp only; split <;> simp
@[simp] theorem State.timingStep_calls (dt : Time) : (s.timingStep dt).calls = s.calls := by unfold State.timingStep; dsimp only; split <;> simp
@[simp] theorem State.timingStep_reply (dt : Time) : (s.timingStep dt).reply = s.reply := by unfold State.timingStep; dsimp only; split <;> simp
@[simp] theorem State.timingStep_auxReads (dt : Time) : (s.timingStep dt).auxReads = s.auxReads := by unfold State.timingStep; dsimp only; split <;> simp

@[simp] theorem State.hltStep_regs (dt : Time) : (s.hltStep dt).regs = s.regs := by unfold State.hltStep; (repeat' split) <;> rfl
@[simp] theorem State.hltStep_statusLayout (dt : Time) : (s.hltStep dt).statusLayout = s.statusLayout := by unfold State.hltStep; (repeat' split) <;> rfl
@[simp] theorem State.hltStep_cmd (dt : Time) : (s.hltStep dt).cmd = s.cmd := by unfold State.hltStep; (repeat' split) <;> rfl
@[simp] theorem State.hltStep_prog (dt : Time) : (s.hltStep dt).prog = s.prog := by unfold State.hltStep; (repeat' split) <;> rfl
@[simp] theorem State.hltStep_latched (dt : Time) : (s.hltStep dt).latched = s.latched := by unfold State.hltStep; (repeat' split) <;> rfl
@[simp] theorem State.hltStep_head (dt : Time) : (s.hltStep dt).head = s.head := by unfold State.hltStep; (repeat' split) <;> rfl
@[simp] theorem State.hltStep_search (dt : Time) : (s.hltStep dt).search = s.search := by unfold State.hltStep; (repeat' split) <;> rfl
@[simp] theorem State.hltStep_medium (dt : Time) : (s.hltStep dt).medium = s.medium := by unfold State.hltStep; (repeat' split) <;> rfl
@[simp] theorem State.hltStep_calls (dt : Time) : (s.hltStep dt).calls = s.calls := by unfold State.hltStep; (repeat' split) <;> rfl
@[simp] theorem State.hltStep_reply (dt : Time) : (s.hltStep dt).reply = s.reply := by unfold State.hltStep; (repeat' split) <;> rfl
@[simp] theorem State.hltStep_auxReads (dt : Time) : (s.hltStep dt).auxReads = s.auxReads := by unfold State.hltStep; (repeat' split) <;> rfl

@[simp] theorem State.hldIdleStep_regs (dt : Time) : (s.hldIdleStep dt).regs = s.regs := by unfold State.hldIdleStep; (repeat' split) <;> rfl
@[simp] theorem State.hldIdleStep_statusLayout (dt : Time) : (s.hldIdleStep dt).statusLayout = s.statusLayout := by unfold State.hldIdleStep; (repeat' split) <;> rfl
@[simp] theorem State.hldIdleStep_cmd (dt : Time) : (s.hldIdleStep dt).cmd = s.cmd := by unfold State.hldIdleStep; (repeat' split) <;> rfl
@[simp] theorem State.hldIdleStep_prog (dt : Time) : (s.hldIdleStep dt).prog = s.prog := by unfold State.hldIdleStep; (repeat' split) <;> rfl
@[simp] theorem State.hldIdleStep_latched (dt : Time) : (s.hldIdleStep dt).latched = s.latched := by unfold State.hldIdleStep; (repeat' split) <;> rfl
@[simp] theorem State.hldIdleStep_head (dt : Time) : (s.hldIdleStep dt).head = s.head := by unfold State.hldIdleStep; (repeat' split) <;> rfl
@[simp] theorem State.hldIdleStep_search (dt : Time) : (s.hldIdleStep dt).search = s.search := by unfold State.hldIdleStep; (repeat' split) <;> rfl
@[simp] theorem State.hldIdleStep_medium (dt : Time) : (s.hldIdleStep dt).medium = s.medium := by unfold State.hldIdleStep; (repeat' split) <;> rfl
@[simp] theorem State.hldIdleStep_calls (dt : Time) : (s.hldIdleStep dt).calls = s.calls := by unfold State.hldIdleStep; (repeat' split) <;> rfl
@[simp] theorem State.hldIdleStep_reply (dt : Time) : (s.hldIdleStep dt).reply = s.reply := by unfold State.hldIdleStep; (repeat' split) <;> rfl
@[simp] theorem State.hldIdleStep_auxReads (dt : Time) : (s.hldIdleStep dt).auxReads = s.auxReads := by unfold State.hldIdleStep; (repeat' split) <;> rfl

@[simp] theorem State.physStep_regs (d : Bool) : (s.physStep d).regs = s.regs := by unfold State.physStep; (repeat' split) <;> rfl
@[simp] theorem State.physStep_statusLayout (d : Bool) : (s.physStep d).statusLayout = s.statusLayout := by unfold State.physStep; (repeat' split) <;> rfl
@[simp] theorem State.physStep_pins (d : Bool) : (s.physStep d).pins = s.pins := by unfold State.physStep; (repeat' split) <;> rfl
@[simp] theorem State.physStep_cmd (d : Bool) : (s.physStep d).cmd = s.cmd := by unfold State.physStep; (repeat' split) <;> rfl
@[simp] theorem State.physStep_prog (d : Bool) : (s.physStep d).prog = s.prog := by unfold State.physStep; (repeat' split) <;> rfl
@[simp] theorem State.physStep_latched (d : Bool) : (s.physStep d).latched = s.latched := by unfold State.physStep; (repeat' split) <;> rfl
@[simp] theorem State.physStep_timers (d : Bool) : (s.physStep d).timers = s.timers := by unfold State.physStep; (repeat' split) <;> rfl
@[simp] theorem State.physStep_search (d : Bool) : (s.physStep d).search = s.search := by unfold State.physStep; (repeat' split) <;> rfl
@[simp] theorem State.physStep_medium (d : Bool) : (s.physStep d).medium = s.medium := by unfold State.physStep; (repeat' split) <;> rfl
@[simp] theorem State.physStep_calls (d : Bool) : (s.physStep d).calls = s.calls := by unfold State.physStep; (repeat' split) <;> rfl
@[simp] theorem State.physStep_reply (d : Bool) : (s.physStep d).reply = s.reply := by unfold State.physStep; (repeat' split) <;> rfl
@[simp] theorem State.physStep_auxReads (d : Bool) : (s.physStep d).auxReads = s.auxReads := by unfold State.physStep; (repeat' split) <;> rfl

@[simp] theorem State.trackUpdate_statusLayout : s.trackUpdate.statusLayout = s.statusLayout := by unfold State.trackUpdate; split <;> rfl
@[simp] theorem State.trackUpdate_pins : s.trackUpdate.pins = s.pins := by unfold State.trackUpdate; split <;> rfl
@[simp] theorem State.trackUpdate_cmd : s.trackUpdate.cmd = s.cmd := by unfold State.trackUpdate; split <;> rfl
@[simp] theorem State.trackUpdate_prog : s.trackUpdate.prog = s.prog := by unfold State.trackUpdate; split <;> rfl
@[simp] theorem State.trackUpdate_latched : s.trackUpdate.latched = s.latched := by unfold State.trackUpdate; split <;> rfl
@[simp] theorem State.trackUpdate_timers : s.trackUpdate.timers = s.timers := by unfold State.trackUpdate; split <;> rfl
@[simp] theorem State.trackUpdate_head : s.trackUpdate.head = s.head := by unfold State.trackUpdate; split <;> rfl
@[simp] theorem State.trackUpdate_search : s.trackUpdate.search = s.search := by unfold State.trackUpdate; split <;> rfl
@[simp] theorem State.trackUpdate_medium : s.trackUpdate.medium = s.medium := by unfold State.trackUpdate; split <;> rfl
@[simp] theorem State.trackUpdate_calls : s.trackUpdate.calls = s.calls := by unfold State.trackUpdate; split <;> rfl
@[simp] theorem State.trackUpdate_reply : s.trackUpdate.reply = s.reply := by unfold State.trackUpdate; split <;> rfl
@[simp] theorem State.trackUpdate_auxReads : s.trackUpdate.auxReads = s.auxReads := by unfold State.trackUpdate; split <;> rfl

@[simp] theorem State.idHunt_statusLayout (b : Byte) : (s.idHunt b).statusLayout = s.statusLayout := by unfold State.idHunt; split <;> rfl
@[simp] theorem State.idHunt_pins (b : Byte) : (s.idHunt b).pins = s.pins := by unfold State.idHunt; split <;> rfl
@[simp] theorem State.idHunt_cmd (b : Byte) : (s.idHunt b).cmd = s.cmd := by unfold State.idHunt; split <;> rfl
@[simp] theorem State.idHunt_prog (b : Byte) : (s.idHunt b).prog = s.prog := by unfold State.idHunt; split <;> rfl
@[simp] theorem State.idHunt_latched (b : Byte) : (s.idHunt b).latched = s.latched := by unfold State.idHunt; split <;> rfl
@[simp] theorem State.idHunt_timers (b : Byte) : (s.idHunt b).timers = s.timers := by unfold State.idHunt; split <;> rfl
@[simp] theorem State.idHunt_head (b : Byte) : (s.idHunt b).head = s.head := by unfold State.idHunt; split <;> rfl
@[simp] theorem State.idHunt_medium (b : Byte) : (s.idHunt b).medium = s.medium := by unfold State.idHunt; split <;> rfl
@[simp] theorem State.idHunt_calls (b : Byte) : (s.idHunt b).calls = s.calls := by unfold State.idHunt; split <;> rfl
@[simp] theorem State.idHunt_reply (b : Byte) : (s.idHunt b).reply = s.reply := by unfold State.idHunt; split <;> rfl
@[simp] theorem State.idHunt_auxReads (b : Byte) : (s.idHunt b).auxReads = s.auxReads := by unfold State.idHunt; split <;> rfl

@[simp] theorem State.idByte_statusLayout (b : Byte) : (s.idByte b).statusLayout = s.statusLayout := by unfold State.idByte; split <;> simp
@[simp] theorem State.idByte_pins (b : Byte) : (s.idByte b).pins = s.pins := by unfold State.idByte; split <;> simp
@[simp] theorem State.idByte_cmd (b : Byte) : (s.idByte b).cmd = s.cmd := by unfold State.idByte; split <;> simp
@[simp] theorem State.idByte_prog (b : Byte) : (s.idByte b).prog = s.prog := by unfold State.idByte; split <;> simp
@[simp] theorem State.idByte_latched (b : Byte) : (s.idByte b).latched = s.latched := by unfold State.idByte; split <;> simp
@[simp] theorem State.idByte_timers (b : Byte) : (s.idByte b).timers = s.timers := by unfold State.idByte; split <;> simp
@[simp] theorem State.idByte_head (b : Byte) : (s.idByte b).head = s.head := by unfold State.idByte; split <;> simp
@[simp] theorem State.idByte_medium (b : Byte) : (s.idByte b).medium = s.medium := by unfold State.idByte; split <;> simp
@[simp] theorem State.idByte_calls (b : Byte) : (s.idByte b).calls = s.calls := by unfold State.idByte; split <;> simp
@[simp] theorem State.idByte_reply (b : Byte) : (s.idByte b).reply = s.reply := by unfold State.idByte; split <;> simp
@[simp] theorem State.idByte_auxReads (b : Byte) : (s.idByte b).auxReads = s.auxReads := by unfold State.idByte; split <;> simp

@[simp] theorem State.searchFail_regs : s.searchFail.regs = s.regs := by unfold State.searchFail; split <;> rfl
@[simp] theorem State.searchFail_statusLayout : s.searchFail.statusLayout = s.statusLayout := by unfold State.searchFail; split <;> rfl
@[simp] theorem State.searchFail_head : s.searchFail.head = s.head := by unfold State.searchFail; split <;> rfl
@[simp] theorem State.searchFail_search : s.searchFail.search = s.search := by unfold State.searchFail; split <;> rfl
@[simp] theorem State.searchFail_medium : s.searchFail.medium = s.medium := by unfold State.searchFail; split <;> rfl
@[simp] theorem State.searchFail_calls : s.searchFail.calls = s.calls := by unfold State.searchFail; split <;> rfl
@[simp] theorem State.searchFail_reply : s.searchFail.reply = s.reply := by unfold State.searchFail; split <;> rfl
@[simp] theorem State.searchFail_auxReads : s.searchFail.auxReads = s.auxReads := by unfold State.searchFail; split <;> rfl

@[simp] theorem State.searchWindow_regs (ie : Bool) : (s.searchWindow ie).regs = s.regs := by unfold State.searchWindow; dsimp only; (repeat' split) <;> simp
@[simp] theorem State.searchWindow_statusLayout (ie : Bool) : (s.searchWindow ie).statusLayout = s.statusLayout := by unfold State.searchWindow; dsimp only; (repeat' split) <;> simp
@[simp] theorem State.searchWindow_head (ie : Bool) : (s.searchWindow ie).head = s.head := by unfold State.searchWindow; dsimp only; (repeat' split) <;> simp
@[simp] theorem State.searchWindow_medium (ie : Bool) : (s.searchWindow ie).medium = s.medium := by unfold State.searchWindow; dsimp only; (repeat' split) <;> simp
@[simp] theorem State.searchWindow_calls (ie : Bool) : (s.searchWindow ie).calls = s.calls := by unfold State.searchWindow; dsimp only; (repeat' split) <;> simp
@[simp] theorem State.searchWindow_reply (ie : Bool) : (s.searchWindow ie).reply = s.reply := by unfold State.searchWindow; dsimp only; (repeat' split) <;> simp
@[simp] theorem State.searchWindow_auxReads (ie : Bool) : (s.searchWindow ie).auxReads = s.auxReads := by unfold State.searchWindow; dsimp only; (repeat' split) <;> simp

@[simp] theorem State.crcBufByte_statusLayout (b : Byte) : (s.crcBufByte b).statusLayout = s.statusLayout := by unfold State.crcBufByte; dsimp only; (repeat' split) <;> rfl
@[simp] theorem State.crcBufByte_pins (b : Byte) : (s.crcBufByte b).pins = s.pins := by unfold State.crcBufByte; dsimp only; (repeat' split) <;> rfl
@[simp] theorem State.crcBufByte_cmd (b : Byte) : (s.crcBufByte b).cmd = s.cmd := by unfold State.crcBufByte; dsimp only; (repeat' split) <;> rfl
@[simp] theorem State.crcBufByte_prog (b : Byte) : (s.crcBufByte b).prog = s.prog := by unfold State.crcBufByte; dsimp only; (repeat' split) <;> rfl
@[simp] theorem State.crcBufByte_latched (b : Byte) : (s.crcBufByte b).latched = s.latched := by unfold State.crcBufByte; dsimp only; (repeat' split) <;> rfl
@[simp] theorem State.crcBufByte_timers (b : Byte) : (s.crcBufByte b).timers = s.timers := by unfold State.crcBufByte; dsimp only; (repeat' split) <;> rfl
@[simp] theorem State.crcBufByte_head (b : Byte) : (s.crcBufByte b).head = s.head := by unfold State.crcBufByte; dsimp only; (repeat' split) <;> rfl
@[simp] theorem State.crcBufByte_medium (b : Byte) : (s.crcBufByte b).medium = s.medium := by unfold State.crcBufByte; dsimp only; (repeat' split) <;> rfl
@[simp] theorem State.crcBufByte_calls (b : Byte) : (s.crcBufByte b).calls = s.calls := by unfold State.crcBufByte; dsimp only; (repeat' split) <;> rfl
@[simp] theorem State.crcBufByte_reply (b : Byte) : (s.crcBufByte b).reply = s.reply := by unfold State.crcBufByte; dsimp only; (repeat' split) <;> rfl
@[simp] theorem State.crcBufByte_auxReads (b : Byte) : (s.crcBufByte b).auxReads = s.auxReads := by unfold State.crcBufByte; dsimp only; (repeat' split) <;> rfl

@[simp] theorem State.nextRecord_statusLayout : s.nextRecord.statusLayout = s.statusLayout := by unfold State.nextRecord; dsimp only; split <;> simp
@[simp] theorem State.nextRecord_latched : s.nextRecord.latched = s.latched := by unfold State.nextRecord; dsimp only; split <;> simp
@[simp] theorem State.nextRecord_medium : s.nextRecord.medium = s.medium := by unfold State.nextRecord; dsimp only; split <;> simp
@[simp] theorem State.nextRecord_calls : s.nextRecord.calls = s.calls := by unfold State.nextRecord; dsimp only; split <;> simp
@[simp] theorem State.nextRecord_reply : s.nextRecord.reply = s.reply := by unfold State.nextRecord; dsimp only; split <;> simp
@[simp] theorem State.nextRecord_auxReads : s.nextRecord.auxReads = s.auxReads := by unfold State.nextRecord; dsimp only; split <;> simp

@[simp] theorem State.actionDone_regs : s.actionDone.regs = s.regs := by unfold State.actionDone; dsimp only; split <;> simp
@[simp] theorem State.actionDone_statusLayout : s.actionDone.statusLayout = s.statusLayout := by unfold State.actionDone; dsimp only; split <;> simp
@[simp] theorem State.actionDone_latched : s.actionDone.latched = s.latched := by unfold State.actionDone; dsimp only; split <;> simp
@[simp] theorem State.actionDone_head : s.actionDone.head = s.head := by unfold State.actionDone; dsimp only; split <;> simp
@[simp] theorem State.actionDone_search : s.actionDone.search = s.search := by unfold State.actionDone; dsimp only; split <;> simp
@[simp] theorem State.actionDone_medium : s.actionDone.medium = s.medium := by unfold State.actionDone; dsimp only; split <;> simp
@[simp] theorem State.actionDone_calls : s.actionDone.calls = s.calls := by unfold State.actionDone; dsimp only; split <;> simp
@[simp] theorem State.actionDone_reply : s.actionDone.reply = s.reply := by unfold State.actionDone; dsimp only; split <;> simp
@[simp] theorem State.actionDone_auxReads : s.actionDone.auxReads = s.auxReads := by unfold State.actionDone; dsimp only; split <;> simp

@[simp] theorem State.forceOnCommand_regs (i : Bool) : (s.forceOnCommand i).regs = s.regs := by unfold State.forceOnCommand; (repeat' split) <;> rfl
@[simp] theorem State.forceOnCommand_latched (i : Bool) : (s.forceOnCommand i).latched = s.latched := by unfold State.forceOnCommand; (repeat' split) <;> rfl
@[simp] theorem State.forceOnCommand_timers (i : Bool) : (s.forceOnCommand i).timers = s.timers := by unfold State.forceOnCommand; (repeat' split) <;> rfl
@[simp] theorem State.forceOnCommand_head (i : Bool) : (s.forceOnCommand i).head = s.head := by unfold State.forceOnCommand; (repeat' split) <;> rfl
@[simp] theorem State.forceOnCommand_search (i : Bool) : (s.forceOnCommand i).search = s.search := by unfold State.forceOnCommand; (repeat' split) <;> rfl
@[simp] theorem State.forceOnCommand_medium (i : Bool) : (s.forceOnCommand i).medium = s.medium := by unfold State.forceOnCommand; (repeat' split) <;> rfl
@[simp] theorem State.forceOnCommand_calls (i : Bool) : (s.forceOnCommand i).calls = s.calls := by unfold State.forceOnCommand; (repeat' split) <;> rfl
@[simp] theorem State.forceOnCommand_reply (i : Bool) : (s.forceOnCommand i).reply = s.reply := by unfold State.forceOnCommand; (repeat' split) <;> rfl
@[simp] theorem State.forceOnCommand_auxReads (i : Bool) : (s.forceOnCommand i).auxReads = s.auxReads := by unfold State.forceOnCommand; (repeat' split) <;> rfl

end Sys2Proof.Machine
end

