-- ==== Sys2Proof/Laws/Command.lean ====
section
/-! SUPPORT. What a phase handler can do, said once: what every handler leaves alone (`CommandFrame`), and that it either
goes on in a phase of its command or ends the command with INTRQ (`Progresses`). -/

namespace Sys2Proof.Machine

/-- What step 4 of a tick never writes (40_common R165: the handlers of 40_common R167 only). -/
structure State.CommandFrame (s t : State) : Prop where
  medium : t.medium = s.medium
  calls : t.calls = s.calls
  reply : t.reply = s.reply
  auxReads : t.auxReads = s.auxReads
  statusLayout : t.statusLayout = s.statusLayout
  rotPtr : t.head.rotPtr = s.head.rotPtr
  master : t.timers.master = s.timers.master
  indexEnc : t.timers.indexEnc = s.timers.indexEnc
  indexWidth : t.timers.indexWidth = s.timers.indexWidth
  rotAcc : t.timers.rotAcc = s.timers.rotAcc
  indexPulse : t.pins.indexPulse = s.pins.indexPulse
  ready : t.pins.ready = s.pins.ready
  tg43 : t.pins.tg43 = s.pins.tg43
  sideSelect : t.pins.sideSelect = s.pins.sideSelect
  cmdType : t.cmd.cmdType = s.cmd.cmdType
  cmdName : t.cmd.cmdName = s.cmd.cmdName
  flags : t.cmd.flags = s.cmd.flags
  armed : t.cmd.armed = s.cmd.armed
  terminateCommand : t.prog.terminateCommand = s.prog.terminateCommand
  cr : t.regs.cr = s.regs.cr
  str : t.regs.str = s.regs.str
  latch : t.regs.latch = s.regs.latch

theorem State.CommandFrame.rfl {s : State} : s.CommandFrame s := by constructor <;> simp

theorem State.CommandFrame.trans {s t u : State} (h : s.CommandFrame t) (k : t.CommandFrame u) :
    s.CommandFrame u := by
  constructor <;> simp [h.1, h.2, h.3, h.4, h.5, h.6, h.7, h.8, h.9, h.10, h.11, h.12, h.13, h.14, h.15, h.16, h.17,
    h.18, h.19, h.20, h.21, h.22, k.1, k.2, k.3, k.4, k.5, k.6, k.7, k.8, k.9, k.10, k.11, k.12, k.13, k.14, k.15,
    k.16, k.17, k.18, k.19, k.20, k.21, k.22]

/-- A handler of the command `n` goes on in a phase of that command, with INTRQ as it was, or ends the command with
INTRQ set (40_common R170). -/
def State.Progresses (n : CmdName) (s t : State) : Prop :=
  (t.prog.commandDone = s.prog.commandDone ∧ t.cmd.phase.handles n = true ∧ t.pins.intrq = s.pins.intrq)
    ∨ (t.prog.commandDone = true ∧ t.cmd.phase = .idle ∧ t.pins.intrq = true)

/-! The shared operations. -/

/-- `det_reset()` clears the two detector counters and nothing else (40_common R174). -/
theorem Search.detReset_eq (q : Search) : q.detReset = { q with zr := 0, sc := 0 } := rfl

@[simp] theorem Search.detReset_zr (q : Search) : q.detReset.zr = 0 := rfl
@[simp] theorem Search.detReset_sc (q : Search) : q.detReset.sc = 0 := rfl
@[simp] theorem Search.detReset_amFound (q : Search) : q.detReset.amFound = q.amFound := rfl
@[simp] theorem Search.detReset_idBuf (q : Search) : q.detReset.idBuf = q.idBuf := rfl
@[simp] theorem Search.detReset_idCount (q : Search) : q.detReset.idCount = q.idCount := rfl
@[simp] theorem Search.detReset_indexCount (q : Search) : q.detReset.indexCount = q.indexCount := rfl
@[simp] theorem Search.detReset_damCount (q : Search) : q.detReset.damCount = q.damCount := rfl

/-- `detect(b, marks)` counts in `zr` and `sc` and nowhere else (40_common R175, R176). -/
theorem Search.detect_frame (d : Density) (q : Search) (b : Byte) (marks : List Byte) :
    (q.detect d b marks).1 = { q with zr := (q.detect d b marks).1.zr, sc := (q.detect d b marks).1.sc } := by
  cases d <;> simp only [Search.detect, Search.detectMfm, Search.detectFm, Search.detReset] <;>
    (repeat' split) <;> rfl

/-- What `detect(b, marks)` returns is `b`, and one of the marks (40_common R175, R176). -/
theorem Search.detect_mark {d : Density} {q : Search} {b mark : Byte} {marks : List Byte}
    (h : (q.detect d b marks).2 = some mark) : mark = b ∧ b ∈ marks := by
  cases d <;> simp only [Search.detect, Search.detectMfm, Search.detectFm] at h <;>
    (repeat' split at h) <;> simp_all

/-- The bits of a byte built from its bits. -/
theorem byteOfBits_bits : ∀ b7 b6 b5 b4 b3 b2 b1 b0 : Bool,
    let v := byteOfBits b7 b6 b5 b4 b3 b2 b1 b0
    v.getLsbD 7 = b7 ∧ v.getLsbD 6 = b6 ∧ v.getLsbD 5 = b5 ∧ v.getLsbD 4 = b4
      ∧ v.getLsbD 3 = b3 ∧ v.getLsbD 2 = b2 ∧ v.getLsbD 1 = b1 ∧ v.getLsbD 0 = b0 := by decide

/-- Bit 0 of the status is BUSY in both layouts (10_state R27, R28). -/
theorem State.status_busy (s : State) : s.status.getLsbD 0 = !s.prog.commandDone := by
  unfold State.status State.statusTypeI State.statusTypeIIandIII
  cases s.statusLayout
  · exact (byteOfBits_bits _ _ _ _ _ _ _ _).2.2.2.2.2.2.2
  · exact (byteOfBits_bits _ _ _ _ _ _ _ _).2.2.2.2.2.2.2

theorem State.finish_frame (s : State) : s.CommandFrame s.finish := by constructor <;> simp

/-- `hld_set()`, said once (40_common R172). -/
theorem State.hldSet_cases (s : State) :
    (s.pins.hld = true ∧ s.hldSet = s)
      ∨ (s.pins.hld = false ∧ s.hldSet = { s with pins.hld := true, pins.hlt := false, timers.hlt := 0 }) := by
  unfold State.hldSet
  cases h : s.pins.hld <;> simp

theorem State.hldSet_frame (s : State) : s.CommandFrame s.hldSet := by
  rcases s.hldSet_cases with ⟨_, h⟩ | ⟨_, h⟩ <;> rw [h] <;> constructor <;> simp

/-- `action_done()`, said once (41_type1 R208). -/
theorem State.actionDone_cases (s : State) :
    (s.cmd.flags.verify = true ∧ s.actionDone =
        { (State.hldSet { s with prog.commandActionDone := true }) with
          timers.settle := 0, cmd.phase := .t1Settle })
      ∨ (s.cmd.flags.verify = false ∧ s.actionDone = State.finish { s with prog.commandActionDone := true }) := by
  cases h : s.cmd.flags.verify
  · exact .inr ⟨rfl, by simp [State.actionDone, h]⟩
  · exact .inl ⟨rfl, by simp [State.actionDone, h]⟩

theorem State.actionDone_frame (s : State) : s.CommandFrame s.actionDone := by
  rcases s.actionDone_cases with ⟨_, h⟩ | ⟨_, h⟩ <;> rw [h]
  · rcases State.hldSet_cases { s with prog.commandActionDone := true } with ⟨_, k⟩ | ⟨_, k⟩ <;> rw [k] <;>
      constructor <;> simp
  · constructor <;> simp

/-- `phys_step(d)`, said once: one cylinder, inside the medium (41_type1 R207). -/
theorem State.physStep_cases (d : Bool) (s : State) :
    (d = true ∧ s.head.currentTrack + 1 < s.medium.geom.cyl
        ∧ s.physStep d = { s with head.currentTrack := s.head.currentTrack + 1 })
      ∨ (d = true ∧ ¬ s.head.currentTrack + 1 < s.medium.geom.cyl ∧ s.physStep d = s)
      ∨ (d = false ∧ s.physStep d = { s with head.currentTrack := s.head.currentTrack - 1 }) := by
  unfold State.physStep
  cases d
  · by_cases h : 0 < s.head.currentTrack
    · simp [h]
    · obtain ⟨_, _, _, _, _, _, _, ⟨t, _, _, _⟩, _, _, _, _, _⟩ := s
      obtain rfl : t = 0 := by simpa using h
      simp
  · by_cases h : s.head.currentTrack + 1 < s.medium.geom.cyl <;> simp [h]

/-- `search_window(ie)`, said once (40_common R178). -/
theorem State.searchWindow_cases (ie : Bool) (s : State) :
    (ie = false ∧ s.searchWindow ie = s)
      ∨ (ie = true ∧ s.search.indexCount + 1 < Config.searchRevs
        ∧ s.searchWindow ie = { s with search.indexCount := s.search.indexCount + 1 })
      ∨ (ie = true ∧ s.cmd.phase = .t1Verify ∧ s.searchWindow ie =
        State.finish { s with search.indexCount := s.search.indexCount + 1, latched.seekError := true })
      ∨ (ie = true ∧ s.cmd.phase ≠ .t1Verify ∧ s.searchWindow ie =
        State.finish { s with search.indexCount := s.search.indexCount + 1, latched.rnf := true }) := by
  unfold State.searchWindow State.searchFail
  cases ie
  · simp
  · by_cases h : Config.searchRevs ≤ s.search.indexCount + 1
    · by_cases hp : s.cmd.phase = .t1Verify <;> simp [h, hp, Nat.not_lt.mpr h]
    · simp [h, Nat.lt_of_not_le h]

theorem State.searchWindow_frame (ie : Bool) (s : State) : s.CommandFrame (s.searchWindow ie) := by
  rcases s.searchWindow_cases ie with ⟨_, h⟩ | ⟨_, _, h⟩ | ⟨_, _, h⟩ | ⟨_, _, h⟩ <;> rw [h] <;> constructor <;> simp

/-- Two ways to go on, or the end (40_common R178). -/
theorem State.searchWindow_progresses {n : CmdName} (ie : Bool) (s : State) (h : s.cmd.phase.handles n = true) :
    s.Progresses n (s.searchWindow ie) := by
  rcases s.searchWindow_cases ie with ⟨_, e⟩ | ⟨_, _, e⟩ | ⟨_, _, e⟩ | ⟨_, _, e⟩ <;> rw [e] <;>
    simp [State.Progresses, h]

theorem State.crcBufByte_cases (b : Byte) (s : State) :
    (s.search.crcCount = 0 ∧ s.crcBufByte b =
        { s with regs.dsr := b, search.crcHi := b, search.crcCount := s.search.crcCount + 1 })
      ∨ (s.search.crcCount = 1 ∧ s.crcBufByte b =
        { s with regs.dsr := b, search.crcLo := b, search.crcCount := s.search.crcCount + 1 })
      ∨ (2 ≤ s.search.crcCount ∧ s.crcBufByte b =
        { s with regs.dsr := b, search.crcCount := s.search.crcCount + 1 }) := by
  unfold State.crcBufByte
  by_cases h0 : s.search.crcCount = 0
  · simp [h0]
  · by_cases h1 : s.search.crcCount = 1
    · simp [h1]
    · right; right
      exact ⟨by omega, by simp [h0, h1]⟩

/-- `set_image_offset()` writes `image_offset` and nothing else (42_type2 R243). -/
theorem State.setImageOffset_eq (s : State) :
    s.setImageOffset = { s with head.imageOffset := s.setImageOffset.head.imageOffset } := by
  unfold State.setImageOffset
  split <;> rfl

theorem State.setImageOffset_currentTrack (s : State) :
    s.setImageOffset.head.currentTrack = s.head.currentTrack := by rw [s.setImageOffset_eq]

theorem State.setImageOffset_rotPtr (s : State) : s.setImageOffset.head.rotPtr = s.head.rotPtr := by
  rw [s.setImageOffset_eq]

/-- `next_record()`, said once (42_type2 R248). -/
theorem State.nextRecord_cases (s : State) :
    (s.cmd.flags.multi = true ∧ s.regs.sr.toNat + 1 ≤ s.medium.geom.spt ∧ s.nextRecord =
        { (State.setImageOffset { s with regs.sr := s.regs.sr + 1 }).searchStart with cmd.phase := .secSearchId })
      ∨ (¬ (s.cmd.flags.multi = true ∧ s.regs.sr.toNat + 1 ≤ s.medium.geom.spt) ∧ s.nextRecord = s.finish) := by
  by_cases h : s.cmd.flags.multi = true ∧ s.regs.sr.toNat + 1 ≤ s.medium.geom.spt
  · exact .inl ⟨h.1, h.2, by simp [State.nextRecord, h]⟩
  · exact .inr ⟨h, if_neg h⟩

theorem State.nextRecord_frame (s : State) : s.CommandFrame s.nextRecord := by
  rcases s.nextRecord_cases with ⟨_, _, h⟩ | ⟨_, h⟩ <;> rw [h] <;> constructor <;>
    simp [State.setImageOffset_rotPtr]

theorem State.nextRecord_progresses {n : CmdName} (s : State) (hn : n.type = .II) : s.Progresses n s.nextRecord := by
  rcases s.nextRecord_cases with ⟨_, _, h⟩ | ⟨_, h⟩ <;> rw [h] <;> simp [State.Progresses, Phase.handles, hn]

/-- `id_byte(b)`, said once (40_common R177). -/
theorem State.idByte_cases (b : Byte) (s : State) :
    (s.search.amFound = true ∧ s.idByte b = s.idCollect b)
      ∨ (s.search.amFound = false ∧ s.detected b [0xFE] = none ∧ s.idByte b = s.detect b [0xFE])
      ∨ (s.search.amFound = false ∧ (∃ m, s.detected b [0xFE] = some m) ∧ s.idByte b =
        { (s.detect b [0xFE]).crcMark 0xFE with search.amFound := true, search.idCount := 0 }) := by
  unfold State.idByte State.idHunt
  cases h : s.search.amFound
  · cases hd : s.detected b [0xFE] <;> simp
  · simp

theorem State.idByte_frame (b : Byte) (s : State) : s.CommandFrame (s.idByte b) := by
  rcases s.idByte_cases b with ⟨_, h⟩ | ⟨_, _, h⟩ | ⟨_, _, h⟩ <;> rw [h] <;> constructor <;> simp

/-- `id_byte(b)` moves neither `TR` nor `SR` (40_common R177). -/
theorem State.idByte_regs (b : Byte) (s : State) :
    (s.idByte b).regs.tr = s.regs.tr ∧ (s.idByte b).regs.sr = s.regs.sr := by
  rcases s.idByte_cases b with ⟨_, h⟩ | ⟨_, _, h⟩ | ⟨_, _, h⟩ <;> rw [h] <;> simp

end Sys2Proof.Machine
end

