-- ==== Sys2Proof/Laws/Handlers.lean ====
section
/-! SUPPORT. Each phase handler, said once: it leaves the frame of step 4 alone, and the command goes on in one of its
own phases or ends with INTRQ (40_common R165, R167, R170). -/

namespace Sys2Proof.Machine

/-- A handler of the command `n` keeps the frame and progresses. -/
def State.Handled (n : CmdName) (s t : State) : Prop := s.CommandFrame t ∧ s.Progresses n t

/-- Handlers compose after an operation that keeps the frame, the phase and the two flags. -/
theorem State.Handled.after {n : CmdName} {s t u : State} (h : s.CommandFrame t)
    (hd : t.prog.commandDone = s.prog.commandDone) (hi : t.pins.intrq = s.pins.intrq) (k : t.Handled n u) :
    s.Handled n u := by
  refine ⟨h.trans k.1, ?_⟩
  rcases k.2 with ⟨a, b, c⟩ | k
  · exact .inl ⟨a.trans hd, b, c.trans hi⟩
  · exact .inr k

theorem State.searchWindow_handled {n : CmdName} (ie : Bool) (s : State) (h : s.cmd.phase.handles n = true) :
    s.Handled n (s.searchWindow ie) := ⟨s.searchWindow_frame ie, s.searchWindow_progresses ie h⟩

theorem State.finish_handled {n : CmdName} (s : State) : s.Handled n s.finish :=
  ⟨s.finish_frame, .inr ⟨rfl, rfl, rfl⟩⟩

theorem State.actionDone_handled {n : CmdName} (s : State) (hn : n.type = .I) : s.Handled n s.actionDone := by
  refine ⟨s.actionDone_frame, ?_⟩
  rcases s.actionDone_cases with ⟨_, h⟩ | ⟨_, h⟩ <;> rw [h]
  · rcases State.hldSet_cases { s with prog.commandActionDone := true } with ⟨_, k⟩ | ⟨_, k⟩ <;> rw [k] <;>
      simp [State.Progresses, Phase.handles, hn]
  · simp [State.Progresses]

theorem State.nextRecord_handled {n : CmdName} (s : State) (hn : n.type = .II) : s.Handled n s.nextRecord :=
  ⟨s.nextRecord_frame, s.nextRecord_progresses hn⟩

theorem State.physStep_frame (d : Bool) (s : State) : s.CommandFrame (s.physStep d) := by
  rcases s.physStep_cases d with ⟨_, _, h⟩ | ⟨_, _, h⟩ | ⟨_, h⟩ <;> rw [h] <;> constructor <;> simp

theorem State.trackUpdate_frame (s : State) : s.CommandFrame s.trackUpdate := by
  unfold State.trackUpdate
  split <;> constructor <;> simp

theorem State.idByte_phase (b : Byte) (s : State) :
    (s.idByte b).cmd = s.cmd ∧ (s.idByte b).prog = s.prog ∧ (s.idByte b).pins = s.pins := by simp

/-! Type I. -/

theorem State.restoreStepping_frame (dt : Time) (s : State) :
    s.CommandFrame (s.restoreStepping dt) ∧ (s.restoreStepping dt).prog = s.prog
      ∧ (s.restoreStepping dt).cmd = s.cmd ∧ (s.restoreStepping dt).pins = s.pins := by
  unfold State.restoreStepping
  split
  · exact ⟨.rfl, rfl, rfl, rfl⟩
  · split
    · refine ⟨State.CommandFrame.trans (t := { s with timers.step := 0 }) ?_ (State.physStep_frame _ _), ?_⟩
      · constructor <;> simp
      · simp
    · exact ⟨by constructor <;> simp, rfl, rfl, rfl⟩

theorem State.restorePhase_handled (dt : Time) (s : State) (h : s.cmd.phase = .t1Step) :
    s.Handled .restore (s.restorePhase dt) := by
  obtain ⟨hf, hp, hc, hi⟩ := s.restoreStepping_frame dt
  unfold State.restorePhase
  refine State.Handled.after hf (by rw [hp]) (by rw [hi]) ?_
  dsimp only
  split
  · refine State.Handled.after (t := { s.restoreStepping dt with regs.tr := 0 }) ?_ (by simp) (by simp)
      (State.actionDone_handled _ rfl)
    constructor <;> simp
  · exact ⟨.rfl, .inl ⟨rfl, by rw [hc, h]; rfl, rfl⟩⟩

theorem State.seekStepping_frame (dt : Time) (s : State) :
    s.CommandFrame (s.seekStepping dt) ∧ (s.seekStepping dt).prog = s.prog
      ∧ (s.seekStepping dt).cmd = s.cmd ∧ (s.seekStepping dt).pins.intrq = s.pins.intrq := by
  unfold State.seekStepping
  split
  · exact ⟨.rfl, rfl, rfl, rfl⟩
  · split
    · split
      · refine ⟨State.CommandFrame.trans
          (t := { s with timers.step := 0, pins.direction := true, regs.tr := s.regs.tr + 1 }) ?_
          (State.physStep_frame _ _), ?_⟩
        · constructor <;> simp
        · simp
      · refine ⟨State.CommandFrame.trans
          (t := { s with timers.step := 0, pins.direction := false, regs.tr := s.regs.tr - 1 }) ?_
          (State.physStep_frame _ _), ?_⟩
        · constructor <;> simp
        · simp
    · exact ⟨by constructor <;> simp, rfl, rfl, rfl⟩

theorem State.seekPhase_handled (dt : Time) (s : State) (h : s.cmd.phase = .t1Step) :
    s.Handled .seek (s.seekPhase dt) := by
  obtain ⟨hf, hp, hc, hi⟩ := s.seekStepping_frame dt
  unfold State.seekPhase
  refine State.Handled.after hf (by rw [hp]) hi ?_
  dsimp only
  split
  · exact State.actionDone_handled _ rfl
  · exact ⟨.rfl, .inl ⟨rfl, by rw [hc, h]; rfl, rfl⟩⟩

theorem State.stepOnce_handled {n : CmdName} (dt : Time) (s : State) (hn : n.type = .I)
    (h : s.cmd.phase = .t1Step) : s.Handled n (s.stepOnce dt) := by
  unfold State.stepOnce
  split
  · refine State.Handled.after (t := { s with timers.step := 0 }) (by constructor <;> simp) rfl rfl ?_
    dsimp only
    split
    · exact State.actionDone_handled _ hn
    · exact State.Handled.after ((State.physStep_frame _ _).trans (State.trackUpdate_frame _)) (by simp) (by simp)
        (State.actionDone_handled _ hn)
  · exact ⟨by constructor <;> simp, by simp [State.Progresses, Phase.handles, h, hn]⟩

theorem State.t1StepPhase_handled {n : CmdName} (dt : Time) (s : State) (h : s.cmd.phase = .t1Step)
    (hn : n.type = .I) : s.Handled n (s.t1StepPhase n dt) := by
  cases n
  case restore => exact s.restorePhase_handled dt h
  case seek => exact s.seekPhase_handled dt h
  case step => exact s.stepOnce_handled dt hn h
  case stepIn => exact s.stepOnce_handled dt hn h
  case stepOut => exact s.stepOnce_handled dt hn h
  all_goals cases hn

theorem State.settlePhase_handled {n : CmdName} (dt : Time) (s : State) (h : s.cmd.phase = .t1Settle)
    (hn : n.type = .I) : s.Handled n (s.settlePhase dt) := by
  unfold State.settlePhase
  split <;> exact ⟨by constructor <;> simp, by simp [State.Progresses, Phase.handles, h, hn]⟩

theorem State.verifyGate_handled {n : CmdName} (s : State) (h : s.cmd.phase = .t1WaitHlt)
    (hn : n.type = .I) : s.Handled n s.verifyGate := by
  unfold State.verifyGate
  split <;> exact ⟨by constructor <;> simp, by simp [State.Progresses, Phase.handles, h, hn]⟩

theorem State.verifyPhase_handled {n : CmdName} (e : TickEvents) (s : State) (h : s.cmd.phase = .t1Verify)
    (hn : n.type = .I) : s.Handled n (s.verifyPhase e) := by
  have hp : s.cmd.phase.handles n = true := by simp [h, Phase.handles, hn]
  have hq : (s.idByte e.b).cmd.phase.handles n = true := by simpa using hp
  unfold State.verifyPhase
  dsimp only
  split
  · refine State.Handled.after (s.idByte_frame e.b) (by simp) (by simp) ?_
    split
    · split
      · split
        · exact State.finish_handled _
        · exact State.Handled.after (t := { s.idByte e.b with latched.crcError := true })
            (by constructor <;> simp) rfl rfl (State.searchWindow_handled _ _ hq)
      · exact State.searchWindow_handled _ _ hq
    · exact State.searchWindow_handled _ _ hq
  · exact State.searchWindow_handled _ _ hp

/-! The start and the ID search of Types II and III. -/

theorem State.eDelayPhase_handled {n : CmdName} (dt : Time) (s : State) (h : s.cmd.phase = .xEDelay)
    (hn : n.type = .II ∨ n.type = .III) : s.Handled n (s.eDelayPhase dt) := by
  unfold State.eDelayPhase
  split <;> exact ⟨by constructor <;> simp, by simp [State.Progresses, Phase.handles, h, hn]⟩

theorem State.hltGate_handled {n : CmdName} (s : State) (h : s.cmd.phase = .xWaitHlt)
    (hn : n.type = .II ∨ n.type = .III) : s.Handled n (s.hltGate n) := by
  unfold State.hltGate
  split
  · unfold State.startDataPhase
    cases n
    case restore | seek | step | stepIn | stepOut | forceInterrupt => simp [CmdName.type] at hn
    all_goals exact ⟨by constructor <;> simp [State.setImageOffset_rotPtr],
      by simp [State.Progresses, Phase.handles, CmdName.type]⟩
  · exact ⟨.rfl, .inl ⟨rfl, by simp [h, Phase.handles, hn], rfl⟩⟩

theorem State.idMatched_handled {n : CmdName} (s : State) (hn : n.type = .II) :
    s.Handled n (s.idMatched n) := by
  unfold State.idMatched
  cases n <;> simp only [CmdName.type, reduceCtorEq] at hn <;>
    exact ⟨by constructor <;> simp, by simp [State.Progresses, Phase.handles]⟩

theorem State.searchIdPhase_handled {n : CmdName} (e : TickEvents) (s : State) (h : s.cmd.phase = .secSearchId)
    (hn : n.type = .II) : s.Handled n (s.searchIdPhase n e) := by
  have hp : s.cmd.phase.handles n = true := by simp [h, Phase.handles, hn]
  have hq : (s.idByte e.b).cmd.phase.handles n = true := by simpa using hp
  unfold State.searchIdPhase
  dsimp only
  split
  · refine State.Handled.after (s.idByte_frame e.b) (by simp) (by simp) ?_
    split
    · split
      · split
        · exact State.idMatched_handled _ hn
        · exact State.Handled.after (t := { s.idByte e.b with latched.crcError := true })
            (by constructor <;> simp) rfl rfl (State.searchWindow_handled _ _ hq)
      · exact State.searchWindow_handled _ _ hq
    · exact State.searchWindow_handled _ _ hq
  · exact State.searchWindow_handled _ _ hp

/-! READ SECTOR. -/

theorem State.searchDamPhase_handled (e : TickEvents) (s : State) (h : s.cmd.phase = .rsSearchDam) :
    s.Handled .readSector (s.searchDamPhase e) := by
  unfold State.searchDamPhase
  dsimp only
  split
  · refine State.Handled.after (t := { s with search.damCount := s.search.damCount + 1 })
      (by constructor <;> simp) rfl rfl ?_
    split
    · exact ⟨by constructor <;> simp, by simp [State.Progresses, Phase.handles]⟩
    · split
      · exact ⟨by constructor <;> simp, by simp [State.Progresses, Phase.handles, CmdName.type]⟩
      · exact State.Handled.after (by constructor <;> simp) (by simp) (by simp)
          (State.searchWindow_handled _ _ (by simp [h, Phase.handles]))
  · exact State.searchWindow_handled _ _ (by simp [h, Phase.handles])

theorem State.readDataPhase_handled (e : TickEvents) (s : State) (h : s.cmd.phase = .rsData) :
    s.Handled .readSector (s.readDataPhase e) := by
  unfold State.readDataPhase
  dsimp only
  (repeat' split) <;> exact ⟨by constructor <;> simp, by simp [State.Progresses, Phase.handles, h]⟩

theorem State.crcBufByte_frame (b : Byte) (s : State) : s.CommandFrame (s.crcBufByte b) := by
  rcases s.crcBufByte_cases b with ⟨_, h⟩ | ⟨_, h⟩ | ⟨_, h⟩ <;> rw [h] <;> constructor <;> simp

theorem State.readCrcPhase_handled (e : TickEvents) (s : State) (h : s.cmd.phase = .rsCrc) :
    s.Handled .readSector (s.readCrcPhase e) := by
  unfold State.readCrcPhase
  dsimp only
  split
  · refine State.Handled.after (s.crcBufByte_frame e.b) (by simp) (by simp) ?_
    split
    · split
      · exact State.nextRecord_handled _ rfl
      · exact State.Handled.after (t := { s.crcBufByte e.b with latched.crcError := true })
          (by constructor <;> simp) rfl rfl (State.finish_handled _)
    · exact ⟨.rfl, by simp [State.Progresses, Phase.handles, h]⟩
  · exact ⟨.rfl, by simp [State.Progresses, Phase.handles, h]⟩

/-! WRITE SECTOR. -/

theorem State.writeGapPhase_handled (e : TickEvents) (s : State) (h : s.cmd.phase = .wsGap) :
    s.Handled .writeSector (s.writeGapPhase e) := by
  unfold State.writeGapPhase
  dsimp only
  (repeat' split) <;> exact ⟨by constructor <;> simp, by simp [State.Progresses, Phase.handles, h]⟩

theorem State.writeMarkPhase_handled (e : TickEvents) (s : State) (h : s.cmd.phase = .wsMark) :
    s.Handled .writeSector (s.writeMarkPhase e) := by
  unfold State.writeMarkPhase
  dsimp only
  (repeat' split) <;> exact ⟨by constructor <;> simp, by simp [State.Progresses, Phase.handles, h]⟩

theorem State.writeDataPhase_handled (e : TickEvents) (s : State) (h : s.cmd.phase = .wsData) :
    s.Handled .writeSector (s.writeDataPhase e) := by
  unfold State.writeDataPhase
  dsimp only
  (repeat' split) <;> exact ⟨by constructor <;> simp, by simp [State.Progresses, Phase.handles, h]⟩

theorem State.writeCrcPhase_handled (e : TickEvents) (s : State) (h : s.cmd.phase = .wsCrc) :
    s.Handled .writeSector (s.writeCrcPhase e) := by
  unfold State.writeCrcPhase
  dsimp only
  split
  · refine State.Handled.after ?_ ?_ ?_ (t := { s with
        search.crcCount := s.search.crcCount + 1
        regs.dsr := if s.search.crcCount + 1 = 1 then crcHiByte s.regs.crc else crcLoByte s.regs.crc }) ?_
    · constructor <;> simp
    · rfl
    · rfl
    · by_cases hc : s.search.crcCount + 1 = 2
      · rw [if_pos hc]
        exact State.nextRecord_handled _ rfl
      · rw [if_neg hc]
        exact ⟨.rfl, by simp [State.Progresses, Phase.handles, h]⟩
  · exact ⟨.rfl, by simp [State.Progresses, Phase.handles, h]⟩

/-! Type III. -/

theorem State.readAddressSearch_handled (e : TickEvents) (s : State) (h : s.cmd.phase = .raSearch) :
    s.Handled .readAddress (s.readAddressSearch e) := by
  unfold State.readAddressSearch
  split
  · split
    · exact ⟨by constructor <;> simp, by simp [State.Progresses, Phase.handles]⟩
    · exact State.Handled.after (t := s.detect e.b [0xFE]) (by constructor <;> simp) (by simp) (by simp)
        (State.searchWindow_handled _ _ (by simp [h, Phase.handles]))
  · exact State.searchWindow_handled _ _ (by simp [h, Phase.handles])

theorem State.readAddressXfer_handled (e : TickEvents) (s : State) (h : s.cmd.phase = .raXfer) :
    s.Handled .readAddress (s.readAddressXfer e) := by
  unfold State.readAddressXfer
  dsimp only
  (repeat' split) <;> exact ⟨by constructor <;> simp, by simp [State.Progresses, Phase.handles, h]⟩

theorem State.readTrackXfer_handled (e : TickEvents) (s : State) (h : s.cmd.phase = .rtXfer) :
    s.Handled .readTrack (s.readTrackXfer e) := by
  unfold State.readTrackXfer
  dsimp only
  (repeat' split) <;> exact ⟨by constructor <;> simp, by simp [State.Progresses, Phase.handles, h]⟩

theorem State.writeTrackXfer_handled (e : TickEvents) (s : State) (h : s.cmd.phase = .wtXfer) :
    s.Handled .writeTrack (s.writeTrackXfer e) := by
  unfold State.writeTrackXfer
  dsimp only
  (repeat' split) <;> exact ⟨by constructor <;> simp, by simp [State.Progresses, Phase.handles, h]⟩

/-! All of them. -/

/-- Every handler keeps the frame, and the command goes on in a phase of its own or ends (40_common R167). -/
theorem State.handler_handled {n : CmdName} (dt : Time) (e : TickEvents) (s : State)
    (h : s.cmd.phase.handles n = true) : s.Handled n (s.handler n dt e) := by
  unfold State.handler
  cases hp : s.cmd.phase <;> simp only [hp, Phase.handles, decide_eq_true_eq] at h <;> dsimp only
  case idle => cases h
  case t1Step => exact s.t1StepPhase_handled dt hp h
  case t1Settle => exact s.settlePhase_handled dt hp h
  case t1WaitHlt => exact s.verifyGate_handled hp h
  case t1Verify => exact s.verifyPhase_handled e hp h
  case xEDelay => exact s.eDelayPhase_handled dt hp h
  case xWaitHlt => exact s.hltGate_handled hp h
  case secSearchId => exact s.searchIdPhase_handled e hp h
  all_goals subst h
  case rsSearchDam => exact s.searchDamPhase_handled e hp
  case rsData => exact s.readDataPhase_handled e hp
  case rsCrc => exact s.readCrcPhase_handled e hp
  case wsGap => exact s.writeGapPhase_handled e hp
  case wsMark => exact s.writeMarkPhase_handled e hp
  case wsData => exact s.writeDataPhase_handled e hp
  case wsCrc => exact s.writeCrcPhase_handled e hp
  case raSearch => exact s.readAddressSearch_handled e hp
  case raXfer => exact s.readAddressXfer_handled e hp
  case rtXfer => exact s.readTrackXfer_handled e hp
  case wtXfer => exact s.writeTrackXfer_handled e hp

/-- A FORCE INTERRUPT condition that fires, said once (44_type4 R313). -/
theorem State.fireCondition_cases (s : State) :
    (s.prog.commandDone = true ∧ s.fireCondition = { s with pins.intrq := true })
      ∨ (s.prog.commandDone = false ∧ s.fireCondition = State.terminate { s with pins.intrq := true }) := by
  unfold State.fireCondition
  cases h : s.prog.commandDone
  · exact .inr ⟨rfl, by simp [h]⟩
  · exact .inl ⟨rfl, by simp [h]⟩

theorem State.fireCondition_frame (s : State) : s.CommandFrame s.fireCondition := by
  rcases s.fireCondition_cases with ⟨_, h⟩ | ⟨_, h⟩ <;> rw [h] <;> constructor <;> simp

/-- Step 4 of a tick, said once (40_common R165). -/
theorem State.commandStep_cases (dt : Time) (e : TickEvents) (s : State) :
    (e.ie = true ∧ s.cmd.armed.i2 = true ∧ s.commandStep dt e = s.fireCondition)
      ∨ (¬ (e.ie = true ∧ s.cmd.armed.i2 = true) ∧ s.prog.commandDone = true ∧ s.commandStep dt e = s)
      ∨ (¬ (e.ie = true ∧ s.cmd.armed.i2 = true) ∧ s.prog.commandDone = false ∧ s.cmd.cmdName = none
        ∧ s.commandStep dt e = s)
      ∨ (¬ (e.ie = true ∧ s.cmd.armed.i2 = true) ∧ s.prog.commandDone = false
        ∧ ∃ n, s.cmd.cmdName = some n ∧ s.commandStep dt e = s.handler n dt e) := by
  unfold State.commandStep
  split
  · rename_i h
    exact .inl ⟨h.1, h.2, rfl⟩
  · rename_i h
    cases hd : s.prog.commandDone
    · cases hn : s.cmd.cmdName with
      | none => exact .inr (.inr (.inl ⟨h, rfl, rfl, by simp⟩))
      | some n => exact .inr (.inr (.inr ⟨h, rfl, n, rfl, by simp⟩))
    · exact .inr (.inl ⟨h, rfl, by simp⟩)

end Sys2Proof.Machine
end

