-- ==== Sys2Proof/Laws/Entry.lean ====
section
/-! SUPPORT. What one step can do, said once: which call it makes, and what that call does when it answers a next state
(40_common R150). -/

namespace Sys2Proof.Machine

/-- The next call is made, or there is none and nothing happens (log 1). -/
theorem step_cases {s t : State} (h : step s = .next t) :
    (s.calls = [] ∧ t = s) ∨ ∃ c rest, s.calls = c :: rest ∧ runCall c (s.takeCall rest) = .next t := by
  unfold step nextCall at h
  cases hc : s.calls with
  | nil =>
    rw [hc] at h
    exact .inl ⟨rfl, (Host.Outcome.next.inj h).symm⟩
  | cons c rest =>
    rw [hc] at h
    exact .inr ⟨c, rest, rfl, h⟩

/-- `reset` that answers a next state (70_reset R380, R381). -/
theorem State.resetCall_next {c : Setup} {s t : State} (h : s.resetCall c = .next t) :
    c.mediumWf = true ∧ Config.hltDelayOk c.hltDelay = true ∧ t = s.resetWith c := by
  unfold State.resetCall at h
  split at h
  · cases h
  · split at h
    · cases h
    · rename_i h1 h2
      exact ⟨by simpa using h1, by simpa using h2, (Host.Outcome.next.inj h).symm⟩

/-- `advance(dt)` that answers a next state (40_common R152). -/
theorem State.advance_next {dt : Time} {s t : State} (h : s.advance dt = .next t) :
    (0 < dt ∧ dt ≤ Config.byteTime s.medium.density) ∧ s.head.currentTrack < s.medium.geom.cyl
      ∧ (s.prog.commandDone = false → s.hasHandler = true) ∧ t = s.tick dt := by
  unfold State.advance at h
  split at h
  · rename_i h0
    split at h
    · cases h
    · split at h
      · cases h
      · rename_i h1 h2
        refine ⟨by simpa [Config.tickOk] using h0, Nat.lt_of_not_le h1, fun hb => ?_, (Host.Outcome.next.inj h).symm⟩
        cases hh : s.hasHandler
        · exact absurd ⟨hb, hh⟩ h2
        · rfl
  · cases h

/-- When `advance(dt)` answers a next state (40_common R152, 60_exceptions R338). -/
theorem State.advance_eq {dt : Time} {s : State} (hd : 0 < dt ∧ dt ≤ Config.byteTime s.medium.density)
    (hc : s.head.currentTrack < s.medium.geom.cyl) (hh : s.prog.commandDone = false → s.hasHandler = true) :
    s.advance dt = .next (s.tick dt) := by
  unfold State.advance
  rw [if_pos (by simpa [Config.tickOk] using hd), if_neg (by omega), if_neg]
  rintro ⟨a, b⟩
  rw [hh a] at b
  cases b

/-- A command byte, by the type of its command (40_common R157). -/
theorem exec_cases (i : Instr) (s : State) :
    ((commandName i).type = .I
        ∧ ∃ f dir, exec i s = .next (s.writeTypeI (encode i) (commandName i) f dir))
      ∨ (((commandName i).type = .II ∨ (commandName i).type = .III)
        ∧ ∃ f, exec i s = .next (s.writeTypeIIorIII (encode i) (commandName i) f))
      ∨ ∃ c, i = .forceInterrupt c ∧ exec i s = .next (s.forceInterrupt c).statusRefresh := by
  cases i
  case restore | seek | step | stepIn | stepOut => exact .inl ⟨rfl, _, _, rfl⟩
  case readSector | writeSector => exact .inr (.inl ⟨.inl rfl, _, rfl⟩)
  case readAddress | readTrack | writeTrack => exact .inr (.inl ⟨.inr rfl, _, rfl⟩)
  case forceInterrupt c => exact .inr (.inr ⟨c, rfl, rfl⟩)

/-- The write of a Type I byte, said once (40_common R160, 41_type1 R200, R201). -/
theorem State.writeTypeI_cases (v : Byte) (n : CmdName) (f : CmdFlags) (dir : Bool) (s : State) :
    (s.prog.commandDone = false ∧ s.writeTypeI v n f dir = s.statusRefresh)
      ∨ (s.prog.commandDone = true
        ∧ s.writeTypeI v n f dir = (((s.startCommon v n f).setBusy).type1Setup dir).statusRefresh) := by
  unfold State.writeTypeI
  cases h : s.prog.commandDone
  · exact .inl ⟨rfl, by simp⟩
  · exact .inr ⟨rfl, by simp⟩

/-- The write of a Type II or III byte, said once (40_common R159, R160, 42_type2 R240). -/
theorem State.writeTypeIIorIII_cases (v : Byte) (n : CmdName) (f : CmdFlags) (s : State) :
    (s.prog.commandDone = false ∧ s.writeTypeIIorIII v n f = s.statusRefresh)
      ∨ (s.prog.commandDone = true ∧ s.pins.ready = false
        ∧ s.writeTypeIIorIII v n f = (s.startCommon v n f).notReadyAbort.statusRefresh)
      ∨ (s.prog.commandDone = true ∧ s.pins.ready = true
        ∧ s.writeTypeIIorIII v n f = (s.startCommon v n f).setBusy.type23Setup.statusRefresh) := by
  unfold State.writeTypeIIorIII
  cases h : s.prog.commandDone
  · exact .inl ⟨rfl, by simp⟩
  · cases hr : s.pins.ready
    · exact .inr (.inl ⟨rfl, rfl, by simp [hr]⟩)
    · exact .inr (.inr ⟨rfl, rfl, by simp [hr]⟩)

/-- One entry-point call that answers a next state (40_common R150). -/
theorem runCall_cases {c : Call} {s t : State} (h : runCall c s = .next t) :
    (∃ p, c = .reset p ∧ p.mediumWf = true ∧ Config.hltDelayOk p.hltDelay = true ∧ t = s.resetWith p)
      ∨ (∃ v, c = .write 0 v ∧ exec (decode v) s = .next t)
      ∨ (∃ p v, c = .write p v ∧ p ≠ 0 ∧ t = s.writePort p v)
      ∨ (∃ p, c = .read p ∧ t = s.readPort p)
      ∨ (∃ dt, c = .advance dt ∧ (0 < dt ∧ dt ≤ Config.byteTime s.medium.density)
        ∧ s.head.currentTrack < s.medium.geom.cyl ∧ (s.prog.commandDone = false → s.hasHandler = true)
        ∧ t = s.tick dt)
      ∨ (∃ level, c = .setReady level ∧ t = s.setReady level)
      ∨ (c = .pins ∧ t = { s with reply := .levels s.pinLevels }) := by
  cases c with
  | reset p => exact .inl ⟨p, rfl, State.resetCall_next h⟩
  | write p v =>
    by_cases hp : p = 0
    · subst hp
      exact .inr (.inl ⟨v, rfl, h⟩)
    · refine .inr (.inr (.inl ⟨p, v, rfl, hp, ?_⟩))
      simp only [runCall, hp, if_false] at h
      exact (Host.Outcome.next.inj h).symm
  | read p => exact .inr (.inr (.inr (.inl ⟨p, rfl, (Host.Outcome.next.inj h).symm⟩)))
  | advance dt => exact .inr (.inr (.inr (.inr (.inl ⟨dt, rfl, State.advance_next h⟩))))
  | setReady l => exact .inr (.inr (.inr (.inr (.inr (.inl ⟨l, rfl, (Host.Outcome.next.inj h).symm⟩)))))
  | pins => exact .inr (.inr (.inr (.inr (.inr (.inr ⟨rfl, (Host.Outcome.next.inj h).symm⟩)))))

/-- `ready_conditions`, said once (44_type4 R315). -/
theorem State.readyConditions_cases (old new : Bool) (s : State) :
    (((old = false ∧ new = true ∧ s.cmd.armed.i0 = true) ∨ (old = true ∧ new = false ∧ s.cmd.armed.i1 = true))
        ∧ s.readyConditions old new = s.fireCondition)
      ∨ (¬ ((old = false ∧ new = true ∧ s.cmd.armed.i0 = true)
          ∨ (old = true ∧ new = false ∧ s.cmd.armed.i1 = true))
        ∧ s.readyConditions old new = s) := by
  unfold State.readyConditions
  split
  · rename_i h
    exact .inl ⟨h, rfl⟩
  · rename_i h
    exact .inr ⟨h, rfl⟩

/-- The part of FORCE INTERRUPT that depends on the command in flight, said once (44_type4 R310). -/
theorem State.forceOnCommand_cases (i3 : Bool) (s : State) :
    (s.prog.commandDone = true ∧ s.forceOnCommand i3 =
        { s with
          cmd.cmdType := some .IV, cmd.cmdName := some .forceInterrupt, statusLayout := .typeI, pins.drq := false })
      ∨ (s.prog.commandDone = false ∧ (s.prog.terminateCommand = true ∨ i3 = true)
        ∧ s.forceOnCommand i3 = s.terminate)
      ∨ (s.prog.commandDone = false ∧ ¬ (s.prog.terminateCommand = true ∨ i3 = true)
        ∧ s.forceOnCommand i3 = s) := by
  unfold State.forceOnCommand
  cases h : s.prog.commandDone
  · by_cases hc : s.prog.terminateCommand = true ∨ i3 = true
    · exact .inr (.inl ⟨rfl, hc, by simp [hc]⟩)
    · exact .inr (.inr ⟨rfl, hc, by simp [hc]⟩)
  · exact .inl ⟨rfl, by simp⟩

end Sys2Proof.Machine
end

