-- ==== Sys2Proof/Laws/Medium.lean ====
section
/-! SUPPORT. The canonical form of the image. Loading an image is the only operation that makes one; no operation writes
one (20_memory R93). -/

namespace Sys2Proof.Machine

/-- A list canonical from a later offset is canonical from an earlier one. -/
theorem Memory.wfFrom_mono {lo hi : Nat} {m : Memory} (h : m.wfFrom hi = true) (hl : lo ≤ hi) :
    m.wfFrom lo = true := by
  cases m with
  | nil => rfl
  | cons c rest =>
    obtain ⟨a, b⟩ := c
    simp only [Memory.wfFrom, Bool.and_eq_true, decide_eq_true_eq] at h ⊢
    exact ⟨⟨by omega, h.1.2⟩, h.2⟩

/-- A loaded image is in canonical form, from whatever offset it starts at. -/
theorem Memory.ofBytesFrom_wf (bs : List Byte) (lo : Nat) : (Memory.ofBytesFrom lo bs).wfFrom lo = true := by
  induction bs generalizing lo with
  | nil => rfl
  | cons b bs ih =>
    unfold Memory.ofBytesFrom
    split
    · exact Memory.wfFrom_mono (ih (lo + 1)) (Nat.le_succ lo)
    · rename_i hb
      simp only [Memory.wfFrom, Bool.and_eq_true, decide_eq_true_eq]
      exact ⟨⟨Nat.le_refl lo, hb⟩, ih (lo + 1)⟩

/-- A loaded image lists offsets of its bytes only. -/
theorem Memory.ofBytesFrom_inside (bs : List Byte) (lo : Nat) :
    ∀ c ∈ Memory.ofBytesFrom lo bs, lo ≤ c.1 ∧ c.1 < lo + bs.length := by
  induction bs generalizing lo with
  | nil => simp [Memory.ofBytesFrom]
  | cons b bs ih =>
    intro c hc
    unfold Memory.ofBytesFrom at hc
    rw [List.length_cons]
    split at hc
    · have := ih (lo + 1) c hc
      omega
    · rcases List.mem_cons.mp hc with rfl | hc
      · simp
      · have := ih (lo + 1) c hc
        omega

/-- Below the first listed offset a canonical image reads as the unlisted byte. -/
theorem Memory.read_below {m : Memory} {lo o : Nat} (h : m.wfFrom lo = true) (ho : o < lo) :
    m.read o = Memory.unlisted := by
  induction m generalizing lo with
  | nil => rfl
  | cons c rest ih =>
    obtain ⟨a, b⟩ := c
    simp only [Memory.wfFrom, Bool.and_eq_true, decide_eq_true_eq] at h
    rw [Memory.read, if_neg (by omega)]
    exact ih h.2 (by omega)

/-- An image of zero bytes lists nothing: equal images are equal lists (log 5). -/
theorem Memory.ofBytesFrom_zeros (n lo : Nat) : Memory.ofBytesFrom lo (List.replicate n 0x00) = [] := by
  induction n generalizing lo with
  | zero => rfl
  | succ n ih => simpa [Memory.ofBytesFrom, List.replicate_succ, Memory.unlisted] using ih (lo + 1)

/-- The image of the state after reset is in canonical form. -/
theorem State.reset_image_wf : State.reset.medium.image.wf = true := rfl

/-- A reset call leaves its image in canonical form. -/
theorem State.resetWith_image_wf (c : Setup) (s : State) : (s.resetWith c).medium.image.wf = true :=
  Memory.ofBytesFrom_wf c.image 0

end Sys2Proof.Machine
end

