-- ==== Sys2Proof/Laws/PerInstr.lean ====
section
/-! SUPPORT. Statements made per instruction: the byte of every command is classified as that command's type (30_encoding
R121 to R129). -/

namespace Sys2Proof.Laws

open Sys2Proof.Machine

/-- The byte of the command is of the command's type (30_encoding R121). -/
def EncodedType.Statement (i : Instr) : Prop := classify (encode i) = (commandName i).type

theorem EncodedType.restore (h v : Bool) (r : BitVec 2) : EncodedType.Statement (.restore h v r) := by
  revert h v r
  unfold EncodedType.Statement
  decide

theorem EncodedType.seek (h v : Bool) (r : BitVec 2) : EncodedType.Statement (.seek h v r) := by
  revert h v r
  unfold EncodedType.Statement
  decide

theorem EncodedType.step (u h v : Bool) (r : BitVec 2) : EncodedType.Statement (.step u h v r) := by
  revert u h v r
  unfold EncodedType.Statement
  decide

theorem EncodedType.stepIn (u h v : Bool) (r : BitVec 2) : EncodedType.Statement (.stepIn u h v r) := by
  revert u h v r
  unfold EncodedType.Statement
  decide

theorem EncodedType.stepOut (u h v : Bool) (r : BitVec 2) : EncodedType.Statement (.stepOut u h v r) := by
  revert u h v r
  unfold EncodedType.Statement
  decide

theorem EncodedType.readSector (m b e u x0 : Bool) : EncodedType.Statement (.readSector m b e u x0) := by
  revert m b e u x0
  unfold EncodedType.Statement
  decide

theorem EncodedType.writeSector (m b e u a0 : Bool) : EncodedType.Statement (.writeSector m b e u a0) := by
  revert m b e u a0
  unfold EncodedType.Statement
  decide

theorem EncodedType.readAddress (x3 e u x0 : Bool) : EncodedType.Statement (.readAddress x3 e u x0) := by
  revert x3 e u x0
  unfold EncodedType.Statement
  decide

theorem EncodedType.readTrack (x3 e u x0 : Bool) : EncodedType.Statement (.readTrack x3 e u x0) := by
  revert x3 e u x0
  unfold EncodedType.Statement
  decide

theorem EncodedType.writeTrack (x3 e u x0 : Bool) : EncodedType.Statement (.writeTrack x3 e u x0) := by
  revert x3 e u x0
  unfold EncodedType.Statement
  decide

theorem EncodedType.forceInterrupt (cond : BitVec 4) : EncodedType.Statement (.forceInterrupt cond) := by
  revert cond
  unfold EncodedType.Statement
  decide

end Sys2Proof.Laws
end

