-- ==== Sys2Proof/Laws/Timing.lean ====
section
/-! SUPPORT. The timing steps of a tick, said once: each is the state with the few fields it writes replaced
(60_exceptions R350 to R356). -/

namespace Sys2Proof.Machine

theorem State.indexWidthStep_eq (dt : Time) (s : State) :
    s.indexWidthStep dt =
      { s with
        pins.indexPulse := (s.indexWidthStep dt).pins.indexPulse
        timers.indexWidth := (s.indexWidthStep dt).timers.indexWidth } := by
  unfold State.indexWidthStep
  (repeat' split) <;> rfl

theorem State.rotate_eq (dt : Time) (s : State) :
    s.rotate dt =
      { s with
        timers.rotAcc :=
          if s.byteEvent dt then s.timers.rotAcc + dt - Config.byteTime s.medium.density else s.timers.rotAcc + dt
        head.rotPtr :=
          if s.byteEvent dt then (s.head.rotPtr + 1) % Config.trackLen s.medium.density else s.head.rotPtr } := by
  unfold State.rotate
  split <;> rfl

/-- `timing_step(dt)` writes the three timers it owns, the rotational pointer and the index pulse. -/
theorem State.timingStep_eq (dt : Time) (s : State) :
    s.timingStep dt =
      { s with
        timers :=
          { s.timers with
            indexEnc := (s.timingStep dt).timers.indexEnc
            indexWidth := (s.timingStep dt).timers.indexWidth
            rotAcc :=
              if s.byteEvent dt then s.timers.rotAcc + dt - Config.byteTime s.medium.density
              else s.timers.rotAcc + dt }
        head.rotPtr :=
          if s.byteEvent dt then (s.head.rotPtr + 1) % Config.trackLen s.medium.density else s.head.rotPtr
        pins.indexPulse := (s.timingStep dt).pins.indexPulse } := by
  unfold State.timingStep
  rw [s.indexWidthStep_eq dt]
  dsimp only
  rw [State.rotate_eq]
  split <;> rfl

/-- `hlt_step(dt)` writes HLT and its timer. -/
theorem State.hltStep_eq (dt : Time) (s : State) :
    s.hltStep dt = { s with pins.hlt := (s.hltStep dt).pins.hlt, timers.hlt := (s.hltStep dt).timers.hlt } := by
  unfold State.hltStep
  (repeat' split) <;> rfl

/-- `hld_idle_step(dt)` writes HLD and its timer. -/
theorem State.hldIdleStep_eq (dt : Time) (s : State) :
    s.hldIdleStep dt =
      { s with pins.hld := (s.hldIdleStep dt).pins.hld, timers.hldIdle := (s.hldIdleStep dt).timers.hldIdle } := by
  unfold State.hldIdleStep
  (repeat' split) <;> rfl

/-- The first three steps of a tick write timers, the rotational pointer, the index pulse, HLT, `tg43` and `STR`
(60_exceptions R350 to R356, 40_common R164). -/
theorem State.tickHead_eq (dt : Time) (s : State) :
    s.tickHead dt =
      { s with
        regs.str := (s.tickHead dt).regs.str
        pins :=
          { s.pins with
            indexPulse := (s.tickHead dt).pins.indexPulse
            hlt := (s.tickHead dt).pins.hlt
            tg43 := decide (43 < s.regs.tr.toNat) }
        timers :=
          { s.timers with
            master := s.timers.master + dt
            indexEnc := (s.tickHead dt).timers.indexEnc
            indexWidth := (s.tickHead dt).timers.indexWidth
            hlt := (s.tickHead dt).timers.hlt
            rotAcc :=
              if s.byteEvent dt then s.timers.rotAcc + dt - Config.byteTime s.medium.density
              else s.timers.rotAcc + dt }
        head.rotPtr :=
          if s.byteEvent dt then (s.head.rotPtr + 1) % Config.trackLen s.medium.density else s.head.rotPtr } := by
  unfold State.tickHead State.statusStep State.statusRefresh
  rw [State.hltStep_eq, State.timingStep_eq]
  rfl

end Sys2Proof.Machine

namespace Sys2Proof

/-- A byte time is positive (00_scope R8). -/
theorem Config.byteTime_pos (d : Density) : 0 < Config.byteTime d := by
  cases d <;> norm_num [Config.byteTime]

/-- A track has bytes (00_scope R8). -/
theorem Config.trackLen_pos (d : Density) : 0 < Config.trackLen d := by cases d <;> decide

end Sys2Proof
end

