-- ==== Sys2Proof/Tests/Slice0.lean ====
section
/-! SUPPORT. Tests of one step each, and a witness for the hypotheses of every obligation that has some. Expected results
come from the encoding tables of 30_encoding.md and from 95_test_vectors.md; each docstring names its source. -/

open Sys2Proof Sys2Proof.Machine Sys2Proof.Claims

namespace Sys2Proof.Tests

/-! WellFormed: an ill-formed term for each check. -/

/-- Every command is well formed (30_encoding R131): there is no ill-formed command. -/
theorem test_every_command_wf : (Instr.readSector true true true true true).wf = true := rfl

/-- The geometry of M1 (95_test_vectors section 0). -/
def m1Geometry : Geometry := { cyl := 40, sides := 1, spt := 9, slen := 256 }

theorem test_m1_geometry_wf : m1Geometry.wf .mfm = true ∧ m1Geometry.wf .fm = true := by decide
theorem test_no_cylinder_refused : ({ m1Geometry with cyl := 0 } : Geometry).wf .mfm = false := by decide
theorem test_257_cylinders_refused : ({ m1Geometry with cyl := 257 } : Geometry).wf .mfm = false := by decide
theorem test_three_sides_refused : ({ m1Geometry with sides := 3 } : Geometry).wf .mfm = false := by decide
theorem test_no_sector_refused : ({ m1Geometry with spt := 0 } : Geometry).wf .mfm = false := by decide
theorem test_odd_length_refused : ({ m1Geometry with slen := 200 } : Geometry).wf .mfm = false := by decide
theorem test_overfull_track_refused : ({ m1Geometry with spt := 19 } : Geometry).wf .mfm = false := by decide

/-- A one-sector medium. -/
def tiny : Setup :=
  { density := .fm, hltDelay := 45000, geom := { cyl := 1, sides := 1, spt := 1, slen := 128 },
    image := List.replicate 128 0xE5, initialTrack := 0, ready := true }

theorem test_tiny_wf : tiny.mediumWf = true ∧ Config.hltDelayOk tiny.hltDelay = true := by decide +kernel
theorem test_short_image_refused : ({ tiny with image := [] } : Setup).mediumWf = false := by decide +kernel
theorem test_head_off_medium_refused : ({ tiny with initialTrack := 1 } : Setup).mediumWf = false := by
  decide +kernel
theorem test_hlt_delay_range :
    Config.hltDelayOk 44999 = false ∧ Config.hltDelayOk 60001 = false ∧ Config.hltDelayOk 60000 = true := by
  decide +kernel

/-- V7.4, V7.5: 27 and 0 are no tick of MFM; the whole byte time is one. -/
theorem test_tick_range :
    Config.tickOk .mfm 27 = false ∧ Config.tickOk .mfm 0 = false ∧ Config.tickOk .mfm (80 / 3) = true := by
  decide +kernel

/-! Decode: a word of every constructor written from its encoding, field by field (30_encoding R122, R126, R128, R129),
and the encoder's word. -/

/-- 0000 h=1 V=0 rr=11: 0x0B (W12). -/
theorem test_decode_restore : decode 0b00001011 = .restore true false 3 := by decide
/-- 0001 h=1 V=1 rr=11: 0x1F (W12). -/
theorem test_decode_seek : decode 0b00011111 = .seek true true 3 := by decide
/-- 001 u=1 h=0 V=0 rr=10. -/
theorem test_decode_step : decode 0b00110010 = .step true false false 2 := by decide
/-- 010 u=1 h=1 V=0 rr=00: 0x58 (V1). -/
theorem test_decode_stepIn : decode 0b01011000 = .stepIn true true false 0 := by decide
/-- 011 u=0 h=0 V=1 rr=01. -/
theorem test_decode_stepOut : decode 0b01100101 = .stepOut false false true 1 := by decide
/-- 100 m=1 b=1 E=1 U=1 x=0: 0x9E (V1). -/
theorem test_decode_readSector : decode 0b10011110 = .readSector true true true true false := by decide
/-- 101 m=0 b=1 E=0 U=0 a0=1: 0xA9 (V1). -/
theorem test_decode_writeSector : decode 0b10101001 = .writeSector false true false false true := by decide
/-- 1100 x=0 E=1 U=0 x=0: 0xC4 (V1). -/
theorem test_decode_readAddress : decode 0b11000100 = .readAddress false true false false := by decide
/-- 1110 x=0 E=0 U=1 x=0. -/
theorem test_decode_readTrack : decode 0b11100010 = .readTrack false false true false := by decide
/-- 1111 x=1 E=1 U=1 x=1: 0xFF (V1). -/
theorem test_decode_writeTrack : decode 0b11111111 = .writeTrack true true true true := by decide
/-- 1101 I3=0 I2=1 I1=0 I0=0: 0xD4 (V1). -/
theorem test_decode_forceInterrupt : decode 0b11010100 = .forceInterrupt 0b0100 := by decide

theorem test_encode :
    encode (.restore true false 3) = 0x0B ∧ encode (.seek true true 3) = 0x1F
      ∧ encode (.step true true true 3) = 0x3F ∧ encode (.stepIn true true false 0) = 0x58
      ∧ encode (.stepOut true true true 3) = 0x7F ∧ encode (.readSector true true true true false) = 0x9E
      ∧ encode (.writeSector false true false false true) = 0xA9
      ∧ encode (.readAddress true true true true) = 0xCF ∧ encode (.readTrack false true false false) = 0xE4
      ∧ encode (.writeTrack false false false false) = 0xF0 ∧ encode (.forceInterrupt 0xF) = 0xDF := by decide

theorem test_decodeTableWord :
    decodeTableWord 8 0x88 = some (.readSector false true false false false)
      ∧ decodeTableWord 16 0x88 = none ∧ decodeTableWord 8 0x188 = none := by decide

/-! One write of a command byte, one or two per instruction. -/

/-- A value of the next state of an outcome. -/
def after {α : Type} (f : State → α) : Host.Outcome State Fault Refusal → Option α
  | .next t => some (f t)
  | .fault _ => none
  | .refused _ => none

/-- The machine just reset, the head at track k. -/
def atTrack (k : Nat) : State := { State.reset with head.currentTrack := k }

/-- P1: after 0x0B at track 3, `STR = 0x01` and `hld = 1`. -/
theorem test_restore_busy :
    after (fun t => (t.regs.str, t.pins.hld, t.cmd.phase)) (exec (decode 0x0B) (atTrack 3))
      = some (0x01, true, .t1Step) := by decide

/-- 41_type1 R200: SEEK upwards sets `direction`; `DR = 5`, `TR = 0`. -/
theorem test_seek_direction :
    after (fun t => (t.pins.direction, t.cmd.flags.verify)) (exec (decode 0x1C) { atTrack 7 with regs.dr := 5 })
      = some (true, true) := by decide

/-- 41_type1 R200: STEP keeps `direction`. -/
theorem test_step_keeps_direction :
    after (fun t => t.pins.direction) (exec (decode 0x30) { atTrack 4 with pins.direction := true }) = some true := by
  decide

/-- 41_type1 R200: STEP-IN and STEP-OUT set it. -/
theorem test_stepIn_direction : after (fun t => t.pins.direction) (exec (decode 0x40) (atTrack 5)) = some true := by
  decide
theorem test_stepOut_direction :
    after (fun t => t.pins.direction) (exec (decode 0x60) { atTrack 4 with pins.direction := true }) = some false := by
  decide

/-- P3: after 0x88, layout II/III, BUSY, HLD, side 0. -/
theorem test_readSector_busy :
    after (fun t => (t.regs.str, t.pins.hld, t.pins.sideSelect, t.cmd.phase)) (exec (decode 0x88) State.reset)
      = some (0x01, true, false, .xWaitHlt) := by decide

/-- P6: not ready: `STR = 0x80`, INTRQ, never BUSY. -/
theorem test_readSector_not_ready :
    after (fun t => (t.regs.str, t.pins.intrq, t.prog.commandDone, t.cmd.cmdName))
      (exec (decode 0x88) { State.reset with pins.ready := false })
      = some (0x80, true, true, some .readSector) := by decide

/-- V3.12: 0x88 while a RESTORE is in flight is rejected: `CR` and INTRQ stay. -/
theorem test_rejected_while_busy :
    after (fun t => after (fun u => (u.regs.cr, u.cmd.cmdName, u.pins.intrq)) (exec (decode 0x88) t))
      (exec (decode 0x0B) (atTrack 3)) = some (some (0x0B, some .restore, false)) := by decide

/-- 42_type2 R240: E = 1 starts with the E-delay. -/
theorem test_writeSector_eDelay :
    after (fun t => (t.cmd.phase, t.cmd.flags.a0)) (exec (decode 0xA5) State.reset) = some (.xEDelay, true) := by
  decide

/-- V5.4: U = 1 selects side 1. -/
theorem test_readAddress_side :
    after (fun t => (t.pins.sideSelect, t.cmd.cmdType)) (exec (decode 0xC2) State.reset) = some (true, some .III) := by
  decide
theorem test_readTrack_busy : after (fun t => t.regs.str) (exec (decode 0xE0) State.reset) = some 0x01 := by decide
theorem test_writeTrack_not_ready :
    after (fun t => t.regs.str) (exec (decode 0xF0) { State.reset with pins.ready := false }) = some 0x80 := by decide

/-- V6.2: 0xD8 idle, head at 5: INTRQ, `STR = 0x00`. -/
theorem test_force_immediate :
    after (fun t => (t.pins.intrq, t.regs.str)) (exec (decode 0xD8) (atTrack 5)) = some (true, 0x00) := by decide

/-- P4: 0xD0 terminates a SEEK with no interrupt and keeps its name. -/
theorem test_force_terminates :
    after (fun t => after (fun u => (u.prog.commandDone, u.pins.intrq, u.cmd.cmdName, u.regs.cr))
        (exec (decode 0xD0) t)) (exec (decode 0x13) (atTrack 7))
      = some (some (true, false, some .seek, 0xD0)) := by decide

/-! Ports, the medium, the timing engine. -/

/-- W9: a byte written to port +3 reads back. -/
theorem test_data_port :
    after (fun t => t.reply) ((fun o => match o with
        | .next t => step t
        | o => o) (step { State.reset with calls := [.write 3 0xA5, .read 3] })) = some (.byte 0xA5) := by decide

/-- V2: the CRC table. -/
theorem test_crc :
    crc16 [0x31, 0x32, 0x33, 0x34, 0x35, 0x36, 0x37, 0x38, 0x39] = 0x29B1 ∧ crc16 [] = 0xFFFF
      ∧ crc16 [0xA1, 0xA1, 0xA1, 0xFE, 0x00, 0x00, 0x01, 0x01] = 0xFA0C
      ∧ crc16 [0xFE, 0x00, 0x00, 0x05, 0x01] = 0x0E26 := by decide +kernel

/-- V1: the sector lengths of the length codes. -/
theorem test_seclen : seclen 1 true = 256 ∧ seclen 1 false = 512 ∧ seclen 3 false = 128 := by decide

/-- V2: image offsets of M1; and, by hand from R89, on two sides: `((3 × 2 + 1) × 9 + 1) × 256`. -/
theorem test_imageOffset :
    imageOffset m1Geometry 0 0 9 = 2048 ∧ imageOffset m1Geometry 5 0 1 = 11520
      ∧ imageOffset m1Geometry 39 0 9 = 91904 ∧ imageOffset { m1Geometry with sides := 2 } 3 1 2 = 16384 := by decide

/-- W1: the step intervals of rates 0 to 3. -/
theorem test_stepInterval :
    [0, 1, 2, 3].map Config.stepInterval = [6000, 12000, 20000, 30000] := by decide +kernel

/-- R152, R355: step 5 counts the tick in which the index condition terminates a command; from an idle timer of 0, as it
stands while a command is in flight, HLD stays (R317). -/
theorem test_index_termination :
    let s : State :=
      { State.reset with
        head.rotPtr := 7499, cmd.armed.i2 := true, pins.hld := true, prog.commandDone := false
        cmd.cmdName := some .restore, cmd.phase := .t1Step }
    (s.tick (80 / 3)).prog.commandDone = true ∧ (s.tick (80 / 3)).pins.hld = true
      ∧ (s.tick (80 / 3)).timers.hldIdle = 80 / 3 := by decide +kernel

/-- V7.3: one tick of a whole byte time from reset. -/
theorem test_tick_one_byte :
    (State.reset.timingStep (80 / 3)).head.rotPtr = 1 ∧ (State.reset.timingStep (80 / 3)).timers.rotAcc = 0 := by
  decide +kernel

/-- V7.4: `advance(27)` is refused. -/
theorem test_tick_refused :
    (match step { State.reset with calls := [.advance 27] } with
      | .refused r => decide (r = .tickOutOfRange)
      | _ => false) = true := by decide +kernel

/-- V3.2: RESTORE 0x08 at track 0 with `TR = 9` ends in the first tick with `TR = 0` and INTRQ. -/
theorem test_restore_at_track_zero :
    after (fun t => (t.regs.tr, t.pins.intrq, t.prog.commandDone))
      (exec (decode 0x08) { State.reset with regs.tr := 9 })
      = some (9, false, false)
      ∧ after (fun t => ((t.tick 20).regs.tr, (t.tick 20).pins.intrq, (t.tick 20).regs.str))
        (exec (decode 0x08) { State.reset with regs.tr := 9 }) = some (0, true, 0x04) := by decide +kernel

/-- The step of the host's table word runs its command first. -/
theorem test_fetch_word :
    after (fun t => t.cmd.cmdName) (step (State.reset.withFetchWord 8 0x0B)) = some (some .restore) := by decide

/-! Witnesses: states and operands that meet the hypotheses of the obligations. -/

/-- A command in flight. -/
def inFlight (n : CmdName) (p : Phase) : State :=
  { State.reset with prog.commandDone := false, cmd.cmdName := some n, cmd.cmdType := some n.type, cmd.phase := p }

/-- A tick with a byte and no index edge; a tick with neither. -/
def byteTick (b : Byte) : TickEvents := { be := true, b := b, ie := false }
def quietTick : TickEvents := { be := false, b := 0, ie := false }

/-- The command stands in its phase in `inFlight`, whatever the tick's byte. -/
theorem wit_InPhase (n : CmdName) (p : Phase) (b : Byte) :
    (inFlight n p).InPhase n p (byteTick b) ∧ (inFlight n p).InPhase n p quietTick :=
  ⟨⟨rfl, rfl, rfl, by simp [byteTick]⟩, ⟨rfl, rfl, rfl, by simp [quietTick]⟩⟩

theorem wit_LengthMatchesOnlyWithSwapFlag : m1Geometry.wf .mfm = true := by decide

theorem wit_CommandWriteRunsDecodedCommand :
    ({ State.reset with calls := [.write 0 0xFF, .pins] } : State).calls = .write 0 0xFF :: [.pins] := rfl

theorem wit_TypeICommandsStartStepping : State.reset.prog.commandDone = true := rfl

theorem wit_TypeIIAndIIICommandsStart : State.reset.prog.commandDone = true ∧ State.reset.pins.ready = true := ⟨rfl, rfl⟩

theorem wit_NotReadyAbortsTypeIIAndIII :
    let s : State := { State.reset with pins.ready := false }
    s.prog.commandDone = true ∧ s.pins.ready = false := ⟨rfl, rfl⟩

theorem wit_CommandWhileBusyIsRejected :
    commandName (.readSector false true false false false) ≠ .forceInterrupt
      ∧ (inFlight .seek .t1Step).prog.commandDone = false
      ∧ (inFlight .seek .t1Step).statusRefresh.regs.str = (inFlight .seek .t1Step).statusRefresh.status :=
  ⟨by decide, rfl, rfl⟩

theorem wit_StatusRegisterLayouts :
    State.reset.statusLayout = .typeI
      ∧ ({ State.reset with statusLayout := .typeIIandIII } : State).statusLayout = .typeIIandIII := ⟨rfl, rfl⟩

/-- Each port of the port statements, the boundary offsets 5 and 6 among them, as a pending call. -/
theorem wit_ports :
    (∀ p, ({ State.reset with calls := [.read p] } : State).calls = .read p :: [])
      ∧ (∀ p v, ({ State.reset with calls := [.write p v] } : State).calls = .write p v :: [])
      ∧ (4 = 4 ∨ 5 < 4) ∧ (6 = 4 ∨ 5 < 6) ∧ ¬ (5 = 4 ∨ 5 < 5) ∧ 5 ≤ 5 := by
  refine ⟨fun _ => rfl, fun _ _ => rfl, ?_⟩
  decide

theorem wit_PinsReadHasNoSideEffect : ({ State.reset with calls := [.pins] } : State).calls = .pins :: [] := rfl

/-- Both armed transitions of `ready_conditions`, and one that fires nothing. -/
theorem wit_ReadyTransitionsFireArmedConditions :
    (let s : State := { State.reset with pins.ready := false, cmd.armed.i0 := true, calls := [.setReady true] }
     s.calls = .setReady true :: [] ∧ s.pins.ready = false ∧ s.cmd.armed.i0 = true)
      ∧ (let s : State := { State.reset with cmd.armed.i1 := true, calls := [.setReady false] }
         s.calls = .setReady false :: [] ∧ s.pins.ready = true ∧ s.cmd.armed.i1 = true)
      ∧ ({ State.reset with calls := [.setReady true] } : State).calls = .setReady true :: [] :=
  ⟨⟨rfl, rfl, rfl⟩, ⟨rfl, rfl, rfl⟩, rfl⟩

theorem wit_reset :
    ({ State.reset with calls := [.reset tiny] } : State).calls = .reset tiny :: []
      ∧ tiny.mediumWf = true ∧ Config.hltDelayOk tiny.hltDelay = true := by
  refine ⟨rfl, ?_⟩
  decide +kernel

/-- A busy, sound state with ticks pending: RESTORE in its stepping phase, the head at track 3. -/
def stepping : State :=
  { inFlight .restore .t1Step with head.currentTrack := 3, regs.str := 0x01, calls := [.advance 20] }

theorem wit_sound : stepping.Sound where
  geometry := by decide
  hltDelay := by decide +kernel
  image := rfl
  imageInside := fun _ h => nomatch h
  onMedium := by decide
  status := by decide
  oneCommand := rfl
  handled := fun _ => rfl

theorem wit_coherent : stepping.Coherent where
  busyBit := by decide
  track00 := by decide
  rotPtr := by decide
  rotAcc := by decide +kernel
  phaseIdle := by decide
  terminate := rfl
  typeIV := nofun

theorem wit_timers : stepping.TimersBounded where
  master := by decide +kernel
  indexEnc := by decide +kernel
  indexWidth := by decide +kernel
  step := by decide +kernel
  settle := by decide +kernel
  eDelay := by decide +kernel
  hldIdle := by decide +kernel
  hlt := by decide +kernel

theorem wit_counters : stepping.CountersBounded where
  sc := by decide
  idCount := by decide
  collecting := nofun
  window := nofun
  unfinished := trivial

theorem wit_spinning : stepping.Spinning := ⟨0, by decide +kernel⟩

/-- A tick of the stepping state answers a next state: the premise of every statement about a step. -/
theorem wit_step : step stepping = .next (State.tick 20 (stepping.takeCall [])) :=
  State.advance_eq (by decide +kernel) (by decide) (fun _ => rfl)

/-- The bounds of a tick: the whole byte time is inside, a little more and 0 are outside. -/
theorem wit_TickRunsItsFiveStepsInOrder :
    (0 < (80 / 3 : Time) ∧ (80 / 3 : Time) ≤ Config.byteTime stepping.medium.density)
      ∧ ¬ (0 < (0 : Time) ∧ (0 : Time) ≤ Config.byteTime stepping.medium.density)
      ∧ ¬ (0 < (27 : Time) ∧ (27 : Time) ≤ Config.byteTime stepping.medium.density) := by decide +kernel

theorem wit_IndexConditionActsBeforeTheHandler :
    (let s : State := { stepping with cmd.armed.i2 := true }
     let e : TickEvents := { be := true, b := 0x4E, ie := true }
     e.ie = true ∧ s.cmd.armed.i2 = true)
      ∧ ¬ (quietTick.ie = true ∧ State.reset.cmd.armed.i2 = true)
      ∧ stepping.prog.commandDone = false ∧ stepping.cmd.cmdName = some .restore := by decide

/-- Both sides of the byte event, at its boundary, and the wrap. -/
theorem wit_TimingStepRotatesTheDisk :
    Config.byteTime State.reset.medium.density ≤ State.reset.timers.rotAcc + 80 / 3
      ∧ ¬ Config.byteTime State.reset.medium.density ≤ State.reset.timers.rotAcc + 20
      ∧ (({ State.reset with head.rotPtr := 7499 } : State).tickEvents (80 / 3)).ie = true
      ∧ (State.reset.tickEvents 20).ie = false := by decide +kernel

/-- The step interval just reached and just missed (rate 0 is 6000), at tracks 0, 1 and 3. -/
theorem wit_interval :
    (let s : State := { stepping with timers.step := 5980 }
     stepMicros s.cmd.flags.rate ≤ s.timers.step + 20 ∧ 1 < s.head.currentTrack)
      ∧ (let s : State := { stepping with timers.step := 5960, head.currentTrack := 1 }
         s.timers.step + 20 < stepMicros s.cmd.flags.rate ∧ s.head.currentTrack = 1)
      ∧ (inFlight .restore .t1Step).head.currentTrack = 0 := by decide +kernel

theorem wit_SeekStepsTowardTheDataRegister :
    (let s : State := { inFlight .seek .t1Step with regs.dr := 0xFF, regs.tr := 0xFE }; s.regs.tr < s.regs.dr)
      ∧ (let s : State := { inFlight .seek .t1Step with regs.tr := 1 }; s.regs.dr < s.regs.tr)
      ∧ (inFlight .seek .t1Step).regs.tr = (inFlight .seek .t1Step).regs.dr := by decide

/-- The head at each end of the medium and inside it, in both directions. -/
theorem wit_StepFamilyStepsOnce :
    (let s : State := { inFlight .stepIn .t1Step with pins.direction := true, head.currentTrack := 39 }
     s.pins.direction = true ∧ s.head.currentTrack + 1 = s.medium.geom.cyl)
      ∧ (let s : State := { inFlight .stepIn .t1Step with pins.direction := true, head.currentTrack := 38 }
         s.pins.direction = true ∧ s.head.currentTrack + 1 < s.medium.geom.cyl)
      ∧ (let s : State := { inFlight .stepOut .t1Step with head.currentTrack := 1 }
         s.pins.direction = false ∧ s.head.currentTrack ≠ 0)
      ∧ (inFlight .step .t1Step).pins.direction = false ∧ (inFlight .step .t1Step).head.currentTrack = 0 := by decide

theorem wit_ActionDoneEndsOrStartsTheVerify :
    State.reset.cmd.flags.verify = false
      ∧ ({ State.reset with cmd.flags.verify := true } : State).cmd.flags.verify = true := ⟨rfl, rfl⟩

/-- The ID field of track 0, sector 1 of M1 with its last byte still to come; the CRC is 0xFA0C (V2). -/
def lastIdByte (n : CmdName) (p : Phase) : State :=
  { inFlight n p with
    regs.crc := 0xFA0C
    regs.sr := 1
    cmd.flags.lengthSwap := true
    search.amFound := true
    search.idCount := 5
    search.idBuf := { track := 0, side := 0, sector := 1, lengthCode := 1, crcHi := 0xFA, crcLo := 0 } }

/-- A good CRC, a bad one, and no field; the field is the target's. -/
theorem wit_id_search :
    (lastIdByte .seek .t1Verify).idResult 0x0C = some true
      ∧ (lastIdByte .seek .t1Verify).idResult 0x0D = some false
      ∧ (inFlight .seek .t1Verify).idResult 0x0C = none
      ∧ ((lastIdByte .seek .t1Verify).idByte 0x0C).search.idBuf.track = (lastIdByte .seek .t1Verify).regs.tr
      ∧ (let s := lastIdByte .readSector .secSearchId
         let t := s.idByte 0x0C
         s.idResult 0x0C = some true ∧ t.search.idBuf.track = s.regs.tr
           ∧ t.search.idBuf.side.toNat = s.pins.sideSelect.toNat ∧ t.search.idBuf.sector = s.regs.sr
           ∧ seclen t.search.idBuf.lengthCode s.cmd.flags.lengthSwap = s.medium.geom.slen) := by decide +kernel

/-- The window one edge short of its end, and at its end. -/
theorem wit_SearchFailsAtTheFifthIndexEdge :
    ({ State.reset with search.indexCount := 3 } : State).search.indexCount + 1 < 5
      ∧ 5 ≤ ({ State.reset with search.indexCount := 4 } : State).search.indexCount + 1 := by decide

theorem wit_HltGateStartsTheDataPhase :
    (inFlight .readTrack .xWaitHlt).pins.hlt = false
      ∧ ({ inFlight .readTrack .xWaitHlt with pins.hlt := true } : State).pins.hlt = true := ⟨rfl, rfl⟩

/-- The detector one byte from a mark, and away from one. -/
theorem wit_marks :
    (let s : State := { inFlight .readSector .rsSearchDam with search.zr := 12, search.sc := 3 }
     s.detected 0xF8 [0xFB, 0xF8] = some 0xF8 ∧ s.detected 0x4E [0xFB, 0xF8] = none)
      ∧ (let s : State := { inFlight .readAddress .raSearch with search.zr := 12, search.sc := 3 }
         s.detected 0xFE [0xFE] = some 0xFE ∧ s.detected 0x4E [0xFE] = none)
      ∧ (43 ≤ ({ State.reset with search.damCount := 42 } : State).search.damCount + 1)
      ∧ ({ State.reset with search.damCount := 41 } : State).search.damCount + 1 < 43 := by decide +kernel

/-- The counters at the last byte of each phase and before it. -/
theorem wit_last_bytes :
    (let s : State := { inFlight .writeSector .wsData with search.xferCount := 255 }
     s.medium.geom.slen ≤ s.search.xferCount + 1)
      ∧ (inFlight .writeSector .wsData).search.xferCount + 1 < (inFlight .writeSector .wsData).medium.geom.slen
      ∧ (let s : State := { inFlight .writeSector .wsGap with search.wcount := 21 }; s.search.wcount + 1 = 22)
      ∧ (inFlight .writeSector .wsGap).search.wcount + 1 ≠ 22
      ∧ (let s : State := { inFlight .writeSector .wsMark with search.wcount := 15 }; s.search.wcount + 1 = 16)
      ∧ (inFlight .writeSector .wsMark).search.wcount + 1 ≠ 16
      ∧ (inFlight .readSector .rsCrc).search.crcCount = 0
      ∧ ({ inFlight .readSector .rsCrc with search.crcCount := 1 } : State).search.crcCount = 1
      ∧ ({ inFlight .readAddress .raXfer with search.xferCount := 5 } : State).search.xferCount + 1 = 6
      ∧ (inFlight .readAddress .raXfer).search.xferCount + 1 ≠ 6
      ∧ ({ inFlight .writeTrack .wtXfer with pins.drq := true } : State).pins.drq = true
      ∧ (inFlight .writeTrack .wtXfer).pins.drq = false := by decide

/-- A multiple-record command at the last sector but one, and at the last. -/
theorem wit_MultipleRecordsAdvanceTheSector :
    (let s : State := { State.reset with cmd.flags.multi := true, regs.sr := 8 }
     s.cmd.flags.multi = true ∧ s.regs.sr.toNat + 1 ≤ s.medium.geom.spt)
      ∧ (let s : State := { State.reset with cmd.flags.multi := true, regs.sr := 9 }
         s.medium.geom.spt < s.regs.sr.toNat + 1)
      ∧ State.reset.cmd.flags.multi = false := by decide

/-- The first and the last sector of a side in both densities. -/
theorem wit_SectorRecordsStandAtTheirOffsets :
    State.reset.medium.geom.wf State.reset.medium.density = true ∧ 0 < State.reset.medium.geom.sides ∧ 1 ≤ 1
      ∧ 9 ≤ State.reset.medium.geom.spt ∧ State.reset.medium.density = .mfm
      ∧ (let m : Medium := { State.reset.medium with density := .fm }
         m.geom.wf m.density = true ∧ m.density = .fm) := by decide

/-- The offsets at the ends of the preamble and of gap 4b, and a side the medium lacks. -/
theorem wit_FormattedTrackFillsOneRevolution :
    m1Geometry.wf .mfm = true ∧ m1Geometry.wf .fm = true ∧ m1Geometry.sides ≤ 1 ∧ 0 < m1Geometry.sides
      ∧ 146 + m1Geometry.spt * (62 + m1Geometry.slen + 84) ≤ 7499
      ∧ 73 + m1Geometry.spt * (33 + m1Geometry.slen + 27) ≤ 3749 := by decide

/-- The detector at each boundary: a run of 5 and of 6, sync counts of 2 and 3, a mark it looks for and another byte. -/
theorem wit_detector_cases :
    let q (zr sc : Nat) : Search := { State.reset.search with zr := zr, sc := sc }
    (6 ≤ (q 6 2).zr ∧ (q 6 2).sc < 3) ∧ ¬ 6 ≤ (q 5 2).zr ∧ ¬ (q 6 3).sc < 3 ∧ (q 6 3).sc = 3
      ∧ (0xFE : Byte) ∈ [(0xFE : Byte)] ∧ (0x4E : Byte) ∉ [(0xFE : Byte)] ∧ (0xFE : Byte) ≠ 0x00 := by decide

theorem wit_DetectorFindsMarksAfterSync :
    (0xFE : Byte) ∈ [(0xFE : Byte)] ∧ (0xFE : Byte) ≠ 0x00 ∧ (0xFE : Byte) ≠ 0xA1 ∧ 6 ≤ 6 := by decide

/-- No mark found, with 0xFE the mark and not; a mark found, before the sixth byte and at it; and the CRC after a mark. -/
theorem wit_OwnIdFieldsCheck :
    (let s : State := { State.reset with search.zr := 12, search.sc := 3 }
     s.search.amFound = false ∧ s.detected 0xFE [0xFE] = some 0xFE ∧ s.detected 0x4E [0xFE] = none)
      ∧ ((lastIdByte .seek .t1Verify).search.amFound = true ∧ (lastIdByte .seek .t1Verify).search.idCount = 5)
      ∧ (let s : State := { State.reset with search.amFound := true, regs.crc := 0xB230 }
         s.search.amFound = true ∧ s.search.idCount = 0
           ∧ s.regs.crc = crc16 (markPrefix s.medium.density 0xFE)) := by decide +kernel

theorem wit_OwnDataFieldsCheck :
    let s : State := { State.reset with regs.crc := 0xE295 }
    s.regs.crc = crc16 (markPrefix s.medium.density 0xFB) := by decide +kernel

/-- A step that moves the head: STEP-IN, one tick before its interval. -/
def aboutToStep : State :=
  { inFlight .stepIn .t1Step with
    pins.direction := true, regs.str := 0x05, timers.step := 5990, calls := [.advance 20] }

theorem wit_OnlySteppingMovesTheHead :
    step aboutToStep = .next (State.tick 20 (aboutToStep.takeCall []))
      ∧ (State.tick 20 (aboutToStep.takeCall [])).head.currentTrack ≠ aboutToStep.head.currentTrack :=
  ⟨State.advance_eq (by decide +kernel) (by decide) (fun _ => rfl), by decide +kernel⟩

/-- The events that set INTRQ: the end of a command, the index condition, the not-ready abort, I3, a transition. -/
theorem wit_IntrqIsSet :
    ((State.tick 20 (aboutToStep.takeCall [])).prog.commandDone = true ∧ aboutToStep.prog.commandDone = false)
      ∧ (let s : State := { State.reset with head.rotPtr := 7499, cmd.armed.i2 := true }
         s.indexEvent (80 / 3) = true ∧ s.cmd.armed.i2 = true)
      ∧ (classify 0x88 = .II ∧ classify 0xC0 = .III ∧ classify 0xD8 = .IV ∧ (0xD8 : Byte).getLsbD 3 = true) := by
  decide +kernel

/-- The events that clear INTRQ: a status read, an accepted command, FORCE INTERRUPT without I3, a reset. -/
theorem wit_IntrqIsCleared :
    (let s : State := { State.reset with pins.intrq := true, calls := [.read 0] }
     after (fun t => t.pins.intrq) (step s) = some false)
      ∧ (let s : State := { State.reset with pins.intrq := true, calls := [.write 0 0x08] }
         after (fun t => t.pins.intrq) (step s) = some false)
      ∧ (let s : State := { State.reset with pins.intrq := true, calls := [.write 0 0xD0] }
         after (fun t => t.pins.intrq) (step s) = some false)
      ∧ (let s : State := { State.reset with pins.intrq := true, calls := [.reset tiny] }
         after (fun t => t.pins.intrq) (step s) = some false) := by decide +kernel

theorem wit_OnlyAcceptedCommandsSetBusy :
    let s : State := { State.reset with calls := [.write 0 0x88] }
    s.prog.commandDone = true ∧ after (fun t => t.prog.commandDone) (step s) = some false := by decide

theorem wit_MediumIsConstantBetweenResets : ∀ c rest, stepping.calls ≠ .reset c :: rest := by
  intro c rest h
  cases h

/-- Two different states with the same records erased. -/
theorem wit_RecordsHaveNoEffect :
    stepping.forgetRecords = ({ stepping with regs.latch := 0xFF, head.startPtr := 7 } : State).forgetRecords
      ∧ stepping ≠ { stepping with regs.latch := 0xFF, head.startPtr := 7 } := by decide +kernel

theorem wit_RestoreAlwaysArrives :
    stepping.prog.commandDone = false ∧ stepping.cmd.cmdName = some .restore ∧ stepping.cmd.phase = .t1Step
      ∧ stepping.cmd.armed.i2 = false ∧ 0 < (20 : Time) ∧ (20 : Time) ≤ Config.byteTime stepping.medium.density
      ∧ stepping.head.currentTrack ≠ 0 ∧ 0 ≤ stepping.timers.step
      ∧ (inFlight .restore .t1Step).head.currentTrack = 0 := by decide +kernel

end Sys2Proof.Tests
end

/-! PROOFS. The tick and the timing step (40_common section 3, 60_exceptions section 4): how `advance(dt)` reaches the
five steps, and what `timing_step(dt)` writes, field by field. -/

namespace Sys2Proof.Proofs

open Sys2Proof.Machine Sys2Proof.Claims

/-! The parameters of the model are the literals of 00_scope R8. -/

theorem byteTime_eq_byteMicros (d : Density) : Config.byteTime d = byteMicros d := by cases d <;> rfl

theorem trackLen_eq_revolutionBytes (d : Density) : Config.trackLen d = revolutionBytes d := by cases d <;> rfl

/-! The events of a tick (60_exceptions R350, 40_common R168). -/

theorem byteEvent_iff (dt : Time) (s : State) :
    s.byteEvent dt = true ↔ byteMicros s.medium.density ≤ s.timers.rotAcc + dt := by
  rw [State.byteEvent, decide_eq_true_iff, byteTime_eq_byteMicros]

/-- At a byte event the pointer advances and `tickEvents` reports the byte of the new offset. -/
theorem tickEvents_of_byteEvent {dt : Time} {s : State} (h : s.byteEvent dt = true) :
    s.tickEvents dt =
      { be := true
        b := mediumByte s.medium s.head.currentTrack s.pins.sideSelect.toNat
          ((s.head.rotPtr + 1) % Config.trackLen s.medium.density)
        ie := decide ((s.head.rotPtr + 1) % Config.trackLen s.medium.density = 0) } := by
  simp only [State.tickEvents, State.indexEvent, State.headByte, State.rotate, h, if_true, Bool.true_and]

theorem tickEvents_of_not_byteEvent {dt : Time} {s : State} (h : s.byteEvent dt = false) :
    s.tickEvents dt = { be := false, b := 0x00, ie := false } := by
  simp [State.tickEvents, State.indexEvent, h]

/-- The index edge is the byte event that wraps the pointer. -/
theorem indexEvent_eq (dt : Time) (s : State) :
    s.indexEvent dt = (s.byteEvent dt && decide ((s.head.rotPtr + 1) % Config.trackLen s.medium.density = 0)) := by
  cases h : s.byteEvent dt
  · simp only [State.indexEvent, h, Bool.false_and]
  · simp only [State.indexEvent, State.rotate, h, if_true]

/-- Whether the pointer wraps depends on the density, the pointer and the accumulator alone, so the aging of the index
pulse does not change it. -/
theorem indexEvent_congr (dt : Time) {s t : State} (hmedium : t.medium = s.medium) (hhead : t.head = s.head)
    (hacc : t.timers.rotAcc = s.timers.rotAcc) : t.indexEvent dt = s.indexEvent dt := by
  simp only [indexEvent_eq, State.byteEvent, hmedium, hhead, hacc]

/-- The pending calls and the reply are no part of what the disk does (logs 1, 2). -/
theorem tickEvents_takeCall (dt : Time) (rest : List Call) (s : State) :
    (s.takeCall rest).tickEvents dt = s.tickEvents dt := by
  cases h : s.byteEvent dt with
  | true =>
    have hcalled : (s.takeCall rest).byteEvent dt = true := h
    rw [tickEvents_of_byteEvent h, tickEvents_of_byteEvent hcalled]
    rfl
  | false =>
    have hcalled : (s.takeCall rest).byteEvent dt = false := h
    rw [tickEvents_of_not_byteEvent h, tickEvents_of_not_byteEvent hcalled]

/-! `advance(dt)` as a step of the machine. -/

/-- A pending `advance(dt)` is the call the step makes (40_common R150). -/
theorem step_of_advance {s : State} {dt : Time} {rest : List Call} (h : s.calls = .advance dt :: rest) :
    step s = (s.takeCall rest).advance dt := by
  simp only [step, nextCall, h, runCall]

/-- X1 TICK_RANGE (60_exceptions R338). -/
theorem advance_refused {s : State} {dt : Time} (h : ¬ (0 < dt ∧ dt ≤ Config.byteTime s.medium.density)) :
    s.advance dt = .refused .tickOutOfRange := by
  unfold State.advance
  rw [if_neg (by simpa [Config.tickOk] using h)]

/-- Steps 1 to 3 change no `TR`, so `tg43` shows the `TR` from before the tick (40_common R164). -/
theorem tickHead_eq_steps (dt : Time) (s : State) :
    s.tickHead dt =
      State.statusRefresh
        { (State.timingStep dt { s with timers.master := s.timers.master + dt }).hltStep dt with
          pins.tg43 := decide (43 < s.regs.tr.toNat) } := by
  simp only [State.tickHead, State.statusStep, State.hltStep_regs, State.timingStep_regs]

/-- Settles O21: a sound state has no reason to fault, so only the range of `dt` decides, and `tick` is the five
steps. -/
theorem tickRunsItsFiveStepsInOrder : Obligations.TickRunsItsFiveStepsInOrder := by
  intro s dt rest hs hcall
  rw [step_of_advance hcall, ← byteTime_eq_byteMicros]
  constructor
  · intro hrange
    exact advance_refused hrange
  · intro hrange
    have hnext : (s.takeCall rest).advance dt = .next ((s.takeCall rest).tick dt) :=
      State.advance_eq hrange hs.onMedium hs.handled
    rw [hnext, State.tick, tickHead_eq_steps, tickEvents_takeCall]
    rfl

/-! The fields `timing_step(dt)` writes (60_exceptions R350 to R353). -/

theorem timingStep_rotAcc (dt : Time) (s : State) :
    (s.timingStep dt).timers.rotAcc =
      if s.byteEvent dt then s.timers.rotAcc + dt - Config.byteTime s.medium.density else s.timers.rotAcc + dt := by
  rw [State.timingStep_eq]

theorem timingStep_rotPtr (dt : Time) (s : State) :
    (s.timingStep dt).head.rotPtr =
      if s.byteEvent dt then (s.head.rotPtr + 1) % Config.trackLen s.medium.density else s.head.rotPtr := by
  rw [State.timingStep_eq]

/-- The index edge is decided by the state before the tick; the rest of `timing_step(dt)` is as R350 writes it. -/
theorem timingStep_eq_rotate (dt : Time) (s : State) :
    s.timingStep dt =
      let aged := s.indexWidthStep dt
      let counted : State := { aged with timers.indexEnc := s.timers.indexEnc + dt }
      if s.indexEvent dt then (counted.rotate dt).indexEdge else counted.rotate dt := by
  have hacc : (s.indexWidthStep dt).timers.rotAcc = s.timers.rotAcc := by rw [State.indexWidthStep_eq]
  have henc : (s.indexWidthStep dt).timers.indexEnc = s.timers.indexEnc := by rw [State.indexWidthStep_eq]
  have hedge := indexEvent_congr dt
    (t := { s.indexWidthStep dt with timers.indexEnc := s.timers.indexEnc + dt })
    (s.indexWidthStep_medium dt) (s.indexWidthStep_head dt) hacc
  simp only [State.timingStep, henc, hedge]

/-- An index edge raises the pulse and starts both index timers (R351). -/
theorem timingStep_of_indexEvent {dt : Time} {s : State} (h : s.indexEvent dt = true) :
    (s.timingStep dt).pins.indexPulse = true ∧ (s.timingStep dt).timers.indexWidth = 0
      ∧ (s.timingStep dt).timers.indexEnc = 0 := by
  rw [timingStep_eq_rotate]
  simp only [h, if_true, State.indexEdge_pins, State.indexEdge_timers, and_self]

/-- With no index edge the pulse only ages, and the index-encounter timer counts (R352, R353). -/
theorem timingStep_of_not_indexEvent {dt : Time} {s : State} (h : s.indexEvent dt = false) :
    (s.timingStep dt).pins.indexPulse = (s.indexWidthStep dt).pins.indexPulse
      ∧ (s.timingStep dt).timers.indexWidth = (s.indexWidthStep dt).timers.indexWidth
      ∧ (s.timingStep dt).timers.indexEnc = s.timers.indexEnc + dt := by
  rw [timingStep_eq_rotate]
  simp only [h, Bool.false_eq_true, if_false, State.rotate_eq, and_self]

/-! The width of the index pulse (60_exceptions R352). -/

theorem indexWidthStep_expired {dt : Time} {s : State} (hp : s.pins.indexPulse = true)
    (hw : 20 ≤ s.timers.indexWidth + dt) :
    s.indexWidthStep dt = { s with pins.indexPulse := false, timers.indexWidth := 0 } := by
  rw [State.indexWidthStep, if_pos hp, if_pos (show Config.indexWidth ≤ _ from hw)]

theorem indexWidthStep_running {dt : Time} {s : State} (hp : s.pins.indexPulse = true)
    (hw : s.timers.indexWidth + dt < 20) :
    s.indexWidthStep dt = { s with timers.indexWidth := s.timers.indexWidth + dt } := by
  rw [State.indexWidthStep, if_pos hp, if_neg (show ¬ Config.indexWidth ≤ _ from not_le.mpr hw)]

theorem indexWidthStep_low (dt : Time) {s : State} (hp : s.pins.indexPulse = false) : s.indexWidthStep dt = s := by
  simp [State.indexWidthStep, hp]

/-- Settles O23: the byte event decides the rotation and the events, the index edge decides the pulse and its timers, and
`State.timingStep_eq` is the frame. -/
theorem timingStepRotatesTheDisk : Obligations.TimingStepRotatesTheDisk := by
  intro s dt event next t
  have hbyte : s.byteEvent dt = true ↔ event := byteEvent_iff dt s
  refine ⟨fun he => ?byteEvent, fun he => ?noByteEvent, fun hi => timingStep_of_indexEvent hi, fun hi => ?noEdge, ?frame⟩
  case byteEvent =>
    have hbe := hbyte.mpr he
    simp only [t, next, timingStep_rotAcc, timingStep_rotPtr, tickEvents_of_byteEvent hbe, hbe, if_true,
      byteTime_eq_byteMicros, trackLen_eq_revolutionBytes, decide_eq_true_iff, and_self]
  case noByteEvent =>
    have hbe : s.byteEvent dt = false := Bool.eq_false_iff.mpr fun h => he (hbyte.mp h)
    simp only [t, timingStep_rotAcc, timingStep_rotPtr, tickEvents_of_not_byteEvent hbe, hbe, Bool.false_eq_true,
      if_false, and_self]
  case noEdge =>
    obtain ⟨hpulse, hwidth, henc⟩ := timingStep_of_not_indexEvent hi
    refine ⟨henc, fun hp hw => ?_, fun hp hw => ?_, fun hp => ?_⟩
    · rw [hpulse, hwidth, indexWidthStep_expired hp hw]
      exact ⟨rfl, rfl⟩
    · rw [hpulse, hwidth, indexWidthStep_running hp hw]
      exact ⟨hp, rfl⟩
    · rw [hpulse, hwidth, indexWidthStep_low dt hp]
      exact ⟨hp, rfl⟩
  case frame =>
    have hframe := s.timingStep_eq dt
    rw [← timingStep_rotAcc, ← timingStep_rotPtr] at hframe
    exact hframe

end Sys2Proof.Proofs

/-! PROOFS. What one step of the machine can do to the state behind the registers and pins, said once, and the rule by
which a predicate on that state is kept by every step (40_common R150 to R167). -/

namespace Sys2Proof.Proofs

open Sys2Proof.Machine Sys2Proof.Claims

/-! What the calls that move no phase leave alone. -/

/-- The two states agree in the command context, the progress flags, the timers, the head, the search and the medium:
they differ in registers, pins, latched bits and the model's own fields at most. -/
structure SameCore (s t : State) : Prop where
  cmd : t.cmd = s.cmd
  prog : t.prog = s.prog
  timers : t.timers = s.timers
  head : t.head = s.head
  search : t.search = s.search
  medium : t.medium = s.medium

theorem takeCall_sameCore (rest : List Call) (s : State) : SameCore s (s.takeCall rest) :=
  ⟨rfl, rfl, rfl, rfl, rfl, rfl⟩

theorem statusRefresh_sameCore (s : State) : SameCore s s.statusRefresh := ⟨rfl, rfl, rfl, rfl, rfl, rfl⟩

theorem portRead_sameCore (port : Nat) (s : State) : SameCore s (s.portRead port) := by
  unfold State.portRead
  (repeat' split) <;> exact ⟨rfl, rfl, rfl, rfl, rfl, rfl⟩

theorem portWrite_sameCore (port : Nat) (v : Byte) (s : State) : SameCore s (s.portWrite port v) := by
  unfold State.portWrite
  (repeat' split) <;> exact ⟨rfl, rfl, rfl, rfl, rfl, rfl⟩

/-- `read(port)` writes the reply and `STR` beside the side effect of the port (40_common R151). -/
theorem readPort_sameCore (port : Nat) (s : State) : SameCore s (s.readPort port) := by
  obtain ⟨hcmd, hprog, htimers, hhead, hsearch, hmedium⟩ := portRead_sameCore port s
  exact ⟨hcmd, hprog, htimers, hhead, hsearch, hmedium⟩

/-- `write(port, v)` writes `STR` beside the effect of the port (40_common R151). -/
theorem writePort_sameCore (port : Nat) (v : Byte) (s : State) : SameCore s (s.writePort port v) := by
  obtain ⟨hcmd, hprog, htimers, hhead, hsearch, hmedium⟩ := portWrite_sameCore port v s
  exact ⟨hcmd, hprog, htimers, hhead, hsearch, hmedium⟩

/-! The command bytes. -/

/-- A Type II or III command keeps the step rate, which Type I commands alone decode (30_encoding R127, R128). -/
theorem exec_typeIIorIII_keeps_rate {i : Instr} (h : (commandName i).type = .II ∨ (commandName i).type = .III)
    (s : State) :
    ∃ f : CmdFlags, exec i s = .next (s.writeTypeIIorIII (encode i) (commandName i) f)
      ∧ f.rate = s.cmd.flags.rate := by
  cases i
  case restore | seek | step | stepIn | stepOut | forceInterrupt => simp [commandName, CmdName.type] at h
  case readSector | writeSector | readAddress | readTrack | writeTrack => exact ⟨_, rfl, rfl⟩

/-! The invariant rule. -/

/-- `P` looks at the core of the state alone, and every operation a call is made of keeps it: the reset, the start of a
command and its abort, FORCE INTERRUPT, a condition that fires, and the steps of a tick. -/
structure KeptByCalls (P : State → Prop) : Prop where
  core : ∀ {s t : State}, SameCore s t → P s → P t
  reset : ∀ (c : Setup) (s : State), c.mediumWf = true → Config.hltDelayOk c.hltDelay = true → P (s.resetWith c)
  startTypeI : ∀ (v : Byte) (n : CmdName) (f : CmdFlags) (dir : Bool) (s : State), n.type = .I →
    P s → P ((s.startCommon v n f).setBusy.type1Setup dir)
  startTypeIIorIII : ∀ (v : Byte) (n : CmdName) (f : CmdFlags) (s : State), n.type = .II ∨ n.type = .III →
    f.rate = s.cmd.flags.rate → P s → P (s.startCommon v n f).setBusy.type23Setup
  abort : ∀ (v : Byte) (n : CmdName) (f : CmdFlags) (s : State), s.prog.commandDone = true →
    f.rate = s.cmd.flags.rate → P s → P (s.startCommon v n f).notReadyAbort
  force : ∀ (c : BitVec 4) (s : State), P s → P (s.forceInterrupt c)
  fire : ∀ s : State, P s → P s.fireCondition
  tickHead : ∀ (dt : Time) (s : State), 0 < dt → dt ≤ Config.byteTime s.medium.density → P s → P (s.tickHead dt)
  handler : ∀ (n : CmdName) (dt : Time) (e : TickEvents) (s : State), 0 < dt → s.prog.commandDone = false →
    s.cmd.phase.handles n = true → P s → P (s.handler n dt e)
  hldIdle : ∀ (dt : Time) (s : State), 0 < dt → P s → P (s.hldIdleStep dt)

variable {P : State → Prop}

theorem KeptByCalls.exec (k : KeptByCalls P) {i : Instr} {s t : State} (h : exec i s = .next t) (hs : P s) : P t := by
  have refreshed {u : State} : P u → P u.statusRefresh := k.core (statusRefresh_sameCore u)
  rcases exec_cases i s with ⟨htype, f, dir, hI⟩ | ⟨htype, -⟩ | ⟨c, -, hIV⟩
  · obtain rfl := Host.Outcome.next.inj (hI.symm.trans h)
    rcases s.writeTypeI_cases (encode i) (commandName i) f dir with ⟨-, ht⟩ | ⟨-, ht⟩ <;> rw [ht]
    · exact refreshed hs
    · exact refreshed (k.startTypeI _ _ _ _ s htype hs)
  · obtain ⟨f, hII, hrate⟩ := exec_typeIIorIII_keeps_rate htype s
    obtain rfl := Host.Outcome.next.inj (hII.symm.trans h)
    rcases s.writeTypeIIorIII_cases (encode i) (commandName i) f with ⟨-, ht⟩ | ⟨hdone, -, ht⟩ | ⟨-, -, ht⟩ <;> rw [ht]
    · exact refreshed hs
    · exact refreshed (k.abort _ _ _ s hdone hrate hs)
    · exact refreshed (k.startTypeIIorIII _ _ _ s htype hrate hs)
  · obtain rfl := Host.Outcome.next.inj (hIV.symm.trans h)
    exact refreshed (k.force c s hs)

theorem KeptByCalls.commandStep (k : KeptByCalls P) {dt : Time} {e : TickEvents} {s : State} (hdt : 0 < dt)
    (hh : s.prog.commandDone = false → s.hasHandler = true) (hs : P s) : P (s.commandStep dt e) := by
  rcases s.commandStep_cases dt e with ⟨-, -, ht⟩ | ⟨-, -, ht⟩ | ⟨-, -, -, ht⟩ | ⟨-, hbusy, n, hn, ht⟩ <;> rw [ht]
  · exact k.fire s hs
  · exact hs
  · exact hs
  · have hhandles : s.cmd.phase.handles n = true := by simpa [State.hasHandler, hn] using hh hbusy
    exact k.handler n dt e s hdt hbusy hhandles hs

/-- Steps 1 to 3 of a tick leave the command in flight alone (40_common R162 to R164). -/
theorem tickHead_cmd (dt : Time) (s : State) : (s.tickHead dt).cmd = s.cmd := by simp [State.tickHead]

theorem tickHead_prog (dt : Time) (s : State) : (s.tickHead dt).prog = s.prog := by simp [State.tickHead]

theorem tickHead_search (dt : Time) (s : State) : (s.tickHead dt).search = s.search := by simp [State.tickHead]

theorem tickHead_medium (dt : Time) (s : State) : (s.tickHead dt).medium = s.medium := by simp [State.tickHead]

theorem tickHead_hasHandler (dt : Time) (s : State) : (s.tickHead dt).hasHandler = s.hasHandler := by
  simp only [State.hasHandler, tickHead_cmd]

theorem KeptByCalls.tick (k : KeptByCalls P) {dt : Time} {s : State}
    (hdt : 0 < dt ∧ dt ≤ Config.byteTime s.medium.density)
    (hh : s.prog.commandDone = false → s.hasHandler = true) (hs : P s) : P (s.tick dt) := by
  have hhead : P (s.tickHead dt) := k.tickHead dt s hdt.1 hdt.2 hs
  have hcommand := k.commandStep (e := s.tickEvents dt) hdt.1
    (by rwa [tickHead_prog, tickHead_hasHandler]) hhead
  exact k.core (statusRefresh_sameCore _) (k.hldIdle dt _ hdt.1 hcommand)

theorem KeptByCalls.setReady (k : KeptByCalls P) {level : Bool} {s : State} (hs : P s) : P (s.setReady level) := by
  refine k.core (statusRefresh_sameCore _) ?_
  have hlevel : P { s with pins.ready := level } := k.core (s := s) ⟨rfl, rfl, rfl, rfl, rfl, rfl⟩ hs
  rcases State.readyConditions_cases s.pins.ready level { s with pins.ready := level } with ⟨-, ht⟩ | ⟨-, ht⟩ <;> rw [ht]
  · exact k.fire _ hlevel
  · exact hlevel

/-- The invariant rule: what the operations keep, every step keeps, whatever the call (40_common R150). -/
theorem KeptByCalls.step (k : KeptByCalls P) {s t : State} (h : step s = .next t) (hs : P s) : P t := by
  rcases step_cases h with ⟨-, rfl⟩ | ⟨c, rest, -, hcall⟩
  · exact hs
  · have hu : P (s.takeCall rest) := k.core (takeCall_sameCore rest s) hs
    rcases runCall_cases hcall with ⟨p, -, hmedium, hdelay, rfl⟩ | ⟨v, -, hexec⟩ | ⟨p, v, -, -, rfl⟩ | ⟨p, -, rfl⟩
      | ⟨dt, -, hdt, -, hh, rfl⟩ | ⟨level, -, rfl⟩ | ⟨-, rfl⟩
    · exact k.reset p _ hmedium hdelay
    · exact k.exec hexec hu
    · exact k.core (writePort_sameCore p v _) hu
    · exact k.core (readPort_sameCore p _) hu
    · exact k.tick hdt hh hu
    · exact k.setReady hu
    · exact k.core (s := s.takeCall rest) ⟨rfl, rfl, rfl, rfl, rfl, rfl⟩ hu

end Sys2Proof.Proofs

/-! PROOFS. The seven invariants of 10_state R54. -/

namespace Sys2Proof.Proofs

open Sys2Proof.Machine Sys2Proof.Claims

/-! FORCE INTERRUPT and the conditions, on the core of the state (44_type4 R310, R313). -/

/-- FORCE INTERRUPT touches no timer, no head, no search and no medium (44_type4 R310). -/
theorem forceInterrupt_frame (c : BitVec 4) (s : State) :
    (s.forceInterrupt c).timers = s.timers ∧ (s.forceInterrupt c).head = s.head
      ∧ (s.forceInterrupt c).search = s.search ∧ (s.forceInterrupt c).medium = s.medium := by
  simp [State.forceInterrupt]

/-- The state in which FORCE INTERRUPT looks at the command in flight: the byte, the conditions and the terminate flag
are written (44_type4 R310, R311). -/
def forceArmed (c : BitVec 4) (s : State) : State :=
  { s with
    regs.cr := encode (.forceInterrupt c)
    pins.intrq := false
    cmd.armed := Armed.ofNibble c
    prog.terminateCommand := decide (c = 0) }

theorem forceInterrupt_eq (c : BitVec 4) (s : State) :
    s.forceInterrupt c =
      { (forceArmed c s).forceOnCommand (c.getLsbD 3) with
        pins.intrq := ((forceArmed c s).forceOnCommand (c.getLsbD 3)).pins.intrq || c.getLsbD 3
        prog.terminateCommand := false } := rfl

/-- What FORCE INTERRUPT leaves of the command: idle, it becomes the command last accepted; in flight, the command is
terminated or goes on (44_type4 R310). -/
theorem forceInterrupt_cases (c : BitVec 4) (s : State) :
    (s.prog.commandDone = true
        ∧ (s.forceInterrupt c).cmd =
          { s.cmd with cmdType := some .IV, cmdName := some .forceInterrupt, armed := Armed.ofNibble c }
        ∧ (s.forceInterrupt c).prog = { s.prog with terminateCommand := false })
      ∨ (s.prog.commandDone = false
        ∧ (s.forceInterrupt c).cmd = { s.cmd with phase := .idle, armed := Armed.ofNibble c }
        ∧ (s.forceInterrupt c).prog = { s.prog with commandDone := true, terminateCommand := false })
      ∨ (s.prog.commandDone = false
        ∧ (s.forceInterrupt c).cmd = { s.cmd with armed := Armed.ofNibble c }
        ∧ (s.forceInterrupt c).prog = { s.prog with terminateCommand := false }) := by
  rw [forceInterrupt_eq]
  rcases State.forceOnCommand_cases (c.getLsbD 3) (forceArmed c s)
    with ⟨hdone, ht⟩ | ⟨hbusy, -, ht⟩ | ⟨hbusy, -, ht⟩ <;> rw [ht]
  · exact .inl ⟨hdone, rfl, rfl⟩
  · exact .inr (.inl ⟨hbusy, rfl, rfl⟩)
  · exact .inr (.inr ⟨hbusy, rfl, rfl⟩)

/-- FORCE INTERRUPT decodes no flag (10_state R44). -/
theorem forceInterrupt_flags (c : BitVec 4) (s : State) : (s.forceInterrupt c).cmd.flags = s.cmd.flags := by
  rcases forceInterrupt_cases c s with ⟨-, hcmd, -⟩ | ⟨-, hcmd, -⟩ | ⟨-, hcmd, -⟩ <;> rw [hcmd]

/-! The disk's position (items 3 and 4 of R54). -/

/-- Items 3 and 4 of R54: the rotational pointer and the byte-assembly accumulator in their ranges. -/
structure DiskInRange (s : State) : Prop where
  rotPtr : s.head.rotPtr < Config.trackLen s.medium.density
  rotAcc : 0 ≤ s.timers.rotAcc ∧ s.timers.rotAcc < Config.byteTime s.medium.density

/-- The range depends on the pointer, the accumulator and the density. -/
theorem DiskInRange.congr {s t : State} (h : DiskInRange s) (hptr : t.head.rotPtr = s.head.rotPtr)
    (hacc : t.timers.rotAcc = s.timers.rotAcc) (hmedium : t.medium = s.medium) : DiskInRange t :=
  ⟨by rw [hptr, hmedium]; exact h.rotPtr, by rw [hacc, hmedium]; exact h.rotAcc⟩

theorem hldSet_rotAcc (s : State) : s.hldSet.timers.rotAcc = s.timers.rotAcc := s.hldSet_frame.rotAcc

theorem type1Setup_rotAcc (dir : Bool) (s : State) : (s.type1Setup dir).timers.rotAcc = s.timers.rotAcc := by
  unfold State.type1Setup State.headLoadAtStart
  split <;> simp [hldSet_rotAcc]

theorem type23Setup_rotAcc (s : State) : s.type23Setup.timers.rotAcc = s.timers.rotAcc := by
  simp [State.type23Setup, hldSet_rotAcc]

/-- A tick of at most a byte time moves the pointer one byte at most, and the remainder stays below a byte time
(60_exceptions R350). -/
theorem tickHead_diskInRange {dt : Time} {s : State} (hpos : 0 < dt) (hle : dt ≤ Config.byteTime s.medium.density)
    (h : DiskInRange s) : DiskInRange (s.tickHead dt) := by
  obtain ⟨hptr, hacc, hlt⟩ := h
  rw [State.tickHead_eq]
  cases he : s.byteEvent dt with
  | true =>
    have hreach : Config.byteTime s.medium.density ≤ s.timers.rotAcc + dt := of_decide_eq_true he
    exact ⟨Nat.mod_lt _ (Config.trackLen_pos _), by dsimp only; rw [if_pos rfl]; constructor <;> linarith⟩
  | false =>
    have hshort : ¬ Config.byteTime s.medium.density ≤ s.timers.rotAcc + dt := of_decide_eq_false he
    exact ⟨hptr, by dsimp only; rw [if_neg Bool.false_ne_true]; constructor <;> linarith⟩

theorem diskInRange_kept : KeptByCalls DiskInRange where
  core hcore h := h.congr (by rw [hcore.head]) (by rw [hcore.timers]) hcore.medium
  reset c _ _ _ := ⟨Config.trackLen_pos c.density, le_refl _, Config.byteTime_pos c.density⟩
  startTypeI v n f dir s _ h := h.congr (by simp) (by rw [type1Setup_rotAcc]; rfl) (by simp)
  startTypeIIorIII v n f s _ _ h := h.congr (by simp) (by rw [type23Setup_rotAcc]; rfl) (by simp)
  abort _ _ _ _ _ _ h := h.congr rfl rfl rfl
  force c s h := by
    obtain ⟨htimers, hhead, -, hmedium⟩ := forceInterrupt_frame c s
    exact h.congr (by rw [hhead]) (by rw [htimers]) hmedium
  fire s h := h.congr s.fireCondition_frame.rotPtr s.fireCondition_frame.rotAcc s.fireCondition_frame.medium
  tickHead _ _ hpos hle h := tickHead_diskInRange hpos hle h
  handler _ dt e s _ _ hphase h :=
    have hframe := (s.handler_handled dt e hphase).1
    h.congr hframe.rotPtr hframe.rotAcc hframe.medium
  hldIdle dt s _ h := h.congr (by simp) (by rw [State.hldIdleStep_eq]) (by simp)

/-! The command context (items 5 to 7 of R54). -/

/-- Items 5 to 7 of R54: Idle is the phase of no command, `terminate_command` does not outlive its call, and FORCE
INTERRUPT is never in flight. -/
structure ControlCoherent (s : State) : Prop where
  phaseIdle : s.cmd.phase = .idle ↔ s.prog.commandDone = true
  terminate : s.prog.terminateCommand = false
  typeIV : s.cmd.cmdType = some .IV → s.prog.commandDone = true

theorem ControlCoherent.congr {s t : State} (h : ControlCoherent s) (hcmd : t.cmd = s.cmd) (hprog : t.prog = s.prog) :
    ControlCoherent t := by
  obtain ⟨hidle, hterm, hIV⟩ := h
  constructor <;> rw [hprog] <;> (try rw [hcmd]) <;> assumption

/-- A command in flight in a phase other than Idle, and not of Type IV. -/
theorem ControlCoherent.of_busy {s : State} (hbusy : s.prog.commandDone = false) (hphase : s.cmd.phase ≠ .idle)
    (hterm : s.prog.terminateCommand = false) (htype : s.cmd.cmdType ≠ some .IV) : ControlCoherent s where
  phaseIdle := by simp [hbusy, hphase]
  terminate := hterm
  typeIV h := absurd h htype

/-- No command in flight, in phase Idle. -/
theorem ControlCoherent.of_idle {s : State} (hdone : s.prog.commandDone = true) (hphase : s.cmd.phase = .idle)
    (hterm : s.prog.terminateCommand = false) : ControlCoherent s where
  phaseIdle := by simp [hdone, hphase]
  terminate := hterm
  typeIV _ := hdone

theorem ControlCoherent.phase_of_done {s : State} (h : ControlCoherent s) (hdone : s.prog.commandDone = true) :
    s.cmd.phase = .idle := h.phaseIdle.mpr hdone

theorem ControlCoherent.type_of_busy {s : State} (h : ControlCoherent s) (hbusy : s.prog.commandDone = false) :
    s.cmd.cmdType ≠ some .IV := fun hIV => by simp [h.typeIV hIV] at hbusy

theorem ControlCoherent.phase_of_busy {s : State} (h : ControlCoherent s) (hbusy : s.prog.commandDone = false) :
    s.cmd.phase ≠ .idle := fun hidle => by simp [h.phaseIdle.mp hidle] at hbusy

/-- Idle is the phase of no command: no handler is its handler (40_common R167). -/
theorem phase_ne_idle_of_handles {p : Phase} {n : CmdName} (h : p.handles n = true) : p ≠ .idle := by
  rintro rfl
  cases h

theorem type1Setup_cmd (dir : Bool) (s : State) : (s.type1Setup dir).cmd = { s.cmd with phase := .t1Step } := by
  simp [State.type1Setup]

theorem type23Setup_cmd (s : State) :
    s.type23Setup.cmd = { s.cmd with phase := if s.cmd.flags.eDelay then .xEDelay else .xWaitHlt } := by
  simp [State.type23Setup]

theorem forceInterrupt_controlCoherent (c : BitVec 4) {s : State} (h : ControlCoherent s) :
    ControlCoherent (s.forceInterrupt c) := by
  rcases forceInterrupt_cases c s with ⟨hdone, hcmd, hprog⟩ | ⟨-, hcmd, hprog⟩ | ⟨hbusy, hcmd, hprog⟩
  · exact .of_idle (by rw [hprog]; exact hdone) (by rw [hcmd]; exact h.phase_of_done hdone) (by rw [hprog])
  · exact .of_idle (by rw [hprog]) (by rw [hcmd]) (by rw [hprog])
  · exact .of_busy (by rw [hprog]; exact hbusy) (by rw [hcmd]; exact h.phase_of_busy hbusy) (by rw [hprog])
      (by rw [hcmd]; exact h.type_of_busy hbusy)

theorem fireCondition_controlCoherent {s : State} (h : ControlCoherent s) : ControlCoherent s.fireCondition := by
  rcases s.fireCondition_cases with ⟨-, ht⟩ | ⟨-, ht⟩ <;> rw [ht]
  · exact h.congr rfl rfl
  · exact .of_idle rfl rfl h.terminate

/-- A handler leaves its command in flight in a phase that has a handler, or ends it in Idle (40_common R167, R170). -/
theorem handler_controlCoherent {n : CmdName} (dt : Time) (e : TickEvents) {s : State}
    (hbusy : s.prog.commandDone = false) (hphase : s.cmd.phase.handles n = true) (h : ControlCoherent s) :
    ControlCoherent (s.handler n dt e) := by
  obtain ⟨hframe, hprogress⟩ := s.handler_handled dt e hphase
  have hterm := hframe.terminateCommand.trans h.terminate
  rcases hprogress with ⟨hdone, hnext, -⟩ | ⟨hdone, hidle, -⟩
  · exact .of_busy (hdone.trans hbusy) (phase_ne_idle_of_handles hnext) hterm
      (by rw [hframe.cmdType]; exact h.type_of_busy hbusy)
  · exact .of_idle hdone hidle hterm

theorem controlCoherent_kept : KeptByCalls ControlCoherent where
  core hcore h := h.congr hcore.cmd hcore.prog
  reset _ _ _ _ := .of_idle rfl rfl rfl
  startTypeI v n f dir s hn _ := .of_busy (by simp) (by simp [type1Setup_cmd]) (by simp) (by simp [type1Setup_cmd, hn])
  startTypeIIorIII v n f s hn _ _ :=
    .of_busy (by simp) (by rw [type23Setup_cmd]; dsimp only; split <;> nofun) (by simp)
      (by rcases hn with hn | hn <;> simp [type23Setup_cmd, hn])
  abort v n f s hdone _ h := .of_idle hdone (h.phase_of_done hdone) rfl
  force c _ h := forceInterrupt_controlCoherent c h
  fire _ h := fireCondition_controlCoherent h
  tickHead dt s _ _ h := h.congr (tickHead_cmd dt s) (tickHead_prog dt s)
  handler _ dt e _ _ hbusy hphase h := handler_controlCoherent dt e hbusy hphase h
  hldIdle _ _ _ h := h.congr (by simp) (by simp)

/-! The BUSY bit (item 1 of R54). -/

theorem statusRefresh_busyBit (s : State) :
    s.statusRefresh.regs.str.getLsbD 0 = true ↔ s.statusRefresh.prog.commandDone = false := by
  rw [State.statusRefresh_regs, State.statusRefresh_prog, s.status_busy, Bool.not_eq_true']

/-- Every command byte ends with `status_refresh()` (40_common R151). -/
theorem exec_refreshes {i : Instr} {s t : State} (h : exec i s = .next t) : ∃ u : State, t = u.statusRefresh := by
  rcases exec_cases i s with ⟨-, f, dir, ht⟩ | ⟨-, f, ht⟩ | ⟨c, -, ht⟩ <;>
    exact ⟨_, (Host.Outcome.next.inj (ht.symm.trans h)).symm⟩

/-- Every call but `pins()` ends with `status_refresh()` (40_common R151 to R155). -/
theorem runCall_refreshes {c : Call} {s t : State} (h : runCall c s = .next t) :
    (∃ u : State, t = u.statusRefresh) ∨ t = { s with reply := .levels s.pinLevels } := by
  rcases runCall_cases h with ⟨p, -, -, -, ht⟩ | ⟨v, -, hexec⟩ | ⟨p, v, -, -, ht⟩ | ⟨p, -, ht⟩
    | ⟨dt, -, -, -, -, ht⟩ | ⟨level, -, ht⟩ | ⟨-, ht⟩
  · exact .inl ⟨_, ht⟩
  · exact .inl (exec_refreshes hexec)
  · exact .inl ⟨_, ht⟩
  · exact .inl ⟨_, ht⟩
  · exact .inl ⟨_, ht⟩
  · exact .inl ⟨_, ht⟩
  · exact .inr ht

/-- BUSY agrees with `command_done` after a step where it did before (40_common R156). -/
theorem step_busyBit {s t : State} (h : step s = .next t)
    (hs : s.regs.str.getLsbD 0 = true ↔ s.prog.commandDone = false) :
    t.regs.str.getLsbD 0 = true ↔ t.prog.commandDone = false := by
  rcases step_cases h with ⟨-, rfl⟩ | ⟨c, rest, -, hcall⟩
  · exact hs
  · rcases runCall_refreshes hcall with ⟨u, rfl⟩ | rfl
    · exact statusRefresh_busyBit u
    · exact hs

/-- Settles O46: the disk's position and the command context are kept by every operation, `STR` is refreshed by every
call, and `not_track00` is computed. -/
theorem stepKeepsTheEntryPointInvariants : Obligations.StepKeepsTheEntryPointInvariants := by
  intro s t hs hstep
  have hdisk : DiskInRange t := diskInRange_kept.step hstep ⟨hs.rotPtr, hs.rotAcc⟩
  have hcontrol : ControlCoherent t := controlCoherent_kept.step hstep ⟨hs.phaseIdle, hs.terminate, hs.typeIV⟩
  exact
    { busyBit := step_busyBit hstep hs.busyBit
      track00 := decide_eq_true_iff
      rotPtr := hdisk.rotPtr
      rotAcc := hdisk.rotAcc
      phaseIdle := hcontrol.phaseIdle
      terminate := hcontrol.terminate
      typeIV := hcontrol.typeIV }

end Sys2Proof.Proofs

/-! PROOFS. The timers stay below their limits (10_state R49): a timer that counts is cleared in the tick in which it
reaches its limit. -/

namespace Sys2Proof.Proofs

open Sys2Proof.Machine Sys2Proof.Claims

/-! The limits as a predicate on the timers alone. -/

/-- The timers are nonnegative and below their limits, with `interval` the step interval and `delay` the HLT delay. -/
structure TimersBelow (interval delay : Time) (τ : Timers) : Prop where
  master : 0 ≤ τ.master
  indexEnc : 0 ≤ τ.indexEnc
  indexWidth : 0 ≤ τ.indexWidth ∧ τ.indexWidth < Config.indexWidth
  step : 0 ≤ τ.step ∧ τ.step < interval
  settle : 0 ≤ τ.settle ∧ τ.settle < Config.settle
  eDelay : 0 ≤ τ.eDelay ∧ τ.eDelay < Config.eDelay
  hldIdle : 0 ≤ τ.hldIdle ∧ τ.hldIdle < Config.hldIdle
  hlt : 0 ≤ τ.hlt ∧ τ.hlt < delay

theorem timersBounded_iff (s : State) :
    s.TimersBounded ↔ TimersBelow s.stepInterval s.medium.hltDelay s.timers :=
  ⟨fun h => { h with }, fun h => { h with }⟩

/-- Every rate code has a positive interval (30_encoding R124). -/
theorem stepInterval_pos (r : BitVec 2) : 0 < Config.stepInterval r := by
  unfold Config.stepInterval
  (repeat' split) <;> norm_num

/-- The HLT delays of 00_scope R8 are positive. -/
theorem hltDelay_pos {q : Time} (h : Config.hltDelayOk q = true) : 0 < q := by
  obtain ⟨hmin, -⟩ : Config.hltDelayMin ≤ q ∧ q ≤ Config.hltDelayMax := of_decide_eq_true h
  exact lt_of_lt_of_le (by norm_num [Config.hltDelayMin]) hmin

/-- A timer short of its limit counts on. -/
theorem count_below {x limit dt : Time} (hdt : 0 < dt) (h : 0 ≤ x ∧ x < limit) (hshort : ¬ limit ≤ x + dt) :
    0 ≤ x + dt ∧ x + dt < limit := ⟨by linarith [h.1], not_le.mp hshort⟩

section Clear

variable {i d : Time} {τ : Timers}

theorem TimersBelow.clear_step (h : TimersBelow i d τ) {i' : Time} (hi : 0 < i') :
    TimersBelow i' d { τ with step := 0 } := { h with step := ⟨le_refl _, hi⟩ }

theorem TimersBelow.clear_hlt (h : TimersBelow i d τ) (hd : 0 < d) : TimersBelow i d { τ with hlt := 0 } :=
  { h with hlt := ⟨le_refl _, hd⟩ }

theorem TimersBelow.clear_hldIdle (h : TimersBelow i d τ) : TimersBelow i d { τ with hldIdle := 0 } :=
  { h with hldIdle := by norm_num [Config.hldIdle] }

theorem TimersBelow.clear_settle (h : TimersBelow i d τ) : TimersBelow i d { τ with settle := 0 } :=
  { h with settle := by norm_num [Config.settle] }

theorem TimersBelow.clear_eDelay (h : TimersBelow i d τ) : TimersBelow i d { τ with eDelay := 0 } :=
  { h with eDelay := by norm_num [Config.eDelay] }

end Clear

/-! The shared operations. -/

section Operations

variable {i d : Time} {s : State}

theorem finish_timersBelow (h : TimersBelow i d s.timers) : TimersBelow i d s.finish.timers := h.clear_hldIdle

theorem hldSet_timersBelow (hd : 0 < d) (h : TimersBelow i d s.timers) : TimersBelow i d s.hldSet.timers := by
  rcases s.hldSet_cases with ⟨-, ht⟩ | ⟨-, ht⟩ <;> rw [ht]
  · exact h
  · exact h.clear_hlt hd

theorem headLoadAtStart_timersBelow (hd : 0 < d) (h : TimersBelow i d s.timers) :
    TimersBelow i d s.headLoadAtStart.timers := by
  unfold State.headLoadAtStart
  split
  · exact hldSet_timersBelow hd h
  · exact h

/-- A Type I command starts its step interval afresh, so the interval of another command's rate does not matter
(41_type1 R200). -/
theorem type1Setup_timersBelow (hd : 0 < d) (dir : Bool) {i' : Time} (hi : 0 < i') (h : TimersBelow i d s.timers) :
    TimersBelow i' d (s.type1Setup dir).timers :=
  (headLoadAtStart_timersBelow hd h).clear_step hi

theorem type23Setup_timersBelow (hd : 0 < d) (h : TimersBelow i d s.timers) :
    TimersBelow i d s.type23Setup.timers :=
  (hldSet_timersBelow (s := { s with pins.sideSelect := s.cmd.flags.updateSide }) hd h).clear_eDelay

theorem actionDone_timersBelow (hd : 0 < d) (h : TimersBelow i d s.timers) : TimersBelow i d s.actionDone.timers := by
  rcases s.actionDone_cases with ⟨-, ht⟩ | ⟨-, ht⟩ <;> rw [ht]
  · exact (hldSet_timersBelow (s := { s with prog.commandActionDone := true }) hd h).clear_settle
  · exact h.clear_hldIdle

theorem searchWindow_timersBelow (ie : Bool) (h : TimersBelow i d s.timers) :
    TimersBelow i d (s.searchWindow ie).timers := by
  rcases s.searchWindow_cases ie with ⟨-, ht⟩ | ⟨-, -, ht⟩ | ⟨-, -, ht⟩ | ⟨-, -, ht⟩ <;> rw [ht]
  · exact h
  · exact h
  · exact h.clear_hldIdle
  · exact h.clear_hldIdle

theorem nextRecord_timersBelow (h : TimersBelow i d s.timers) : TimersBelow i d s.nextRecord.timers := by
  rcases s.nextRecord_cases with ⟨-, -, ht⟩ | ⟨-, ht⟩ <;> rw [ht]
  · simpa using h
  · exact h.clear_hldIdle

end Operations

/-! The phases (40_common R167). -/

section Handlers

variable {i d dt : Time} {s : State}

/-- A stepping phase counts the step interval and starts it afresh when it has passed (41_type1 R202 to R204). -/
theorem restoreStepping_timersBelow (hdt : 0 < dt) (h : TimersBelow s.stepInterval d s.timers) :
    TimersBelow s.stepInterval d (s.restoreStepping dt).timers := by
  unfold State.restoreStepping
  split
  · exact h
  · split
    · rw [State.physStep_timers]
      exact h.clear_step (stepInterval_pos _)
    · rename_i hshort
      exact { h with step := count_below hdt h.step hshort }

theorem seekStepping_timersBelow (hdt : 0 < dt) (h : TimersBelow s.stepInterval d s.timers) :
    TimersBelow s.stepInterval d (s.seekStepping dt).timers := by
  unfold State.seekStepping
  split
  · exact h
  · split
    · split <;> rw [State.physStep_timers] <;> exact h.clear_step (stepInterval_pos _)
    · rename_i hshort
      exact { h with step := count_below hdt h.step hshort }

theorem stepOnce_timersBelow (hd : 0 < d) (hdt : 0 < dt) (h : TimersBelow s.stepInterval d s.timers) :
    TimersBelow s.stepInterval d (s.stepOnce dt).timers := by
  have hclear : TimersBelow s.stepInterval d { s.timers with step := 0 } := h.clear_step (stepInterval_pos _)
  unfold State.stepOnce
  split
  · dsimp only
    split
    · exact actionDone_timersBelow hd hclear
    · refine actionDone_timersBelow hd ?_
      simpa using hclear
  · rename_i hshort
    exact { h with step := count_below hdt h.step hshort }

theorem t1StepPhase_timersBelow (n : CmdName) (hd : 0 < d) (hdt : 0 < dt)
    (h : TimersBelow s.stepInterval d s.timers) : TimersBelow s.stepInterval d (s.t1StepPhase n dt).timers := by
  cases n
  case restore =>
    have hstep := restoreStepping_timersBelow hdt h
    simp only [State.t1StepPhase, State.restorePhase]
    split
    · exact actionDone_timersBelow hd hstep
    · exact hstep
  case seek =>
    have hstep := seekStepping_timersBelow hdt h
    simp only [State.t1StepPhase, State.seekPhase]
    split
    · exact actionDone_timersBelow hd hstep
    · exact hstep
  case step | stepIn | stepOut => exact stepOnce_timersBelow hd hdt h
  case readSector | writeSector | readAddress | readTrack | writeTrack | forceInterrupt => exact h

theorem settlePhase_timersBelow (hdt : 0 < dt) (h : TimersBelow i d s.timers) :
    TimersBelow i d (s.settlePhase dt).timers := by
  unfold State.settlePhase
  split
  · exact h.clear_settle
  · rename_i hshort
    exact { h with settle := count_below hdt h.settle hshort }

theorem eDelayPhase_timersBelow (hdt : 0 < dt) (h : TimersBelow i d s.timers) :
    TimersBelow i d (s.eDelayPhase dt).timers := by
  unfold State.eDelayPhase
  split
  · exact h.clear_eDelay
  · rename_i hshort
    exact { h with eDelay := count_below hdt h.eDelay hshort }

theorem verifyPhase_timersBelow (e : TickEvents) (h : TimersBelow i d s.timers) :
    TimersBelow i d (s.verifyPhase e).timers := by
  have hid : TimersBelow i d (s.idByte e.b).timers := by rwa [State.idByte_timers]
  unfold State.verifyPhase
  dsimp only
  (repeat' split) <;> simp only [finish_timersBelow, searchWindow_timersBelow, hid, h]

theorem hltGate_timersBelow (n : CmdName) (h : TimersBelow i d s.timers) : TimersBelow i d (s.hltGate n).timers := by
  unfold State.hltGate
  split
  · cases n <;> simpa [State.startDataPhase] using h
  · exact h

theorem searchIdPhase_timersBelow (n : CmdName) (e : TickEvents) (h : TimersBelow i d s.timers) :
    TimersBelow i d (s.searchIdPhase n e).timers := by
  have hid : TimersBelow i d (s.idByte e.b).timers := by rwa [State.idByte_timers]
  have hmatched : TimersBelow i d ((s.idByte e.b).idMatched n).timers := by
    unfold State.idMatched
    split <;> exact hid
  unfold State.searchIdPhase
  dsimp only
  (repeat' split) <;> simp only [hmatched, searchWindow_timersBelow, hid, h]

theorem searchDamPhase_timersBelow (e : TickEvents) (h : TimersBelow i d s.timers) :
    TimersBelow i d (s.searchDamPhase e).timers := by
  unfold State.searchDamPhase
  dsimp only
  split
  · split
    · exact h
    · split
      · exact h
      · exact searchWindow_timersBelow _ h
  · exact searchWindow_timersBelow _ h

theorem readCrcPhase_timersBelow (e : TickEvents) (h : TimersBelow i d s.timers) :
    TimersBelow i d (s.readCrcPhase e).timers := by
  have hbyte : TimersBelow i d (s.crcBufByte e.b).timers := by rwa [State.crcBufByte_timers]
  unfold State.readCrcPhase
  dsimp only
  split
  · split
    · split
      · exact nextRecord_timersBelow hbyte
      · exact hbyte.clear_hldIdle
    · exact hbyte
  · exact h

theorem writeCrcPhase_timersBelow (e : TickEvents) (h : TimersBelow i d s.timers) :
    TimersBelow i d (s.writeCrcPhase e).timers := by
  simp only [State.writeCrcPhase]
  split
  · split
    · exact nextRecord_timersBelow h
    · exact h
  · exact h

theorem readAddressSearch_timersBelow (e : TickEvents) (h : TimersBelow i d s.timers) :
    TimersBelow i d (s.readAddressSearch e).timers := by
  unfold State.readAddressSearch
  split
  · split
    · exact h
    · exact searchWindow_timersBelow _ h
  · exact searchWindow_timersBelow _ h

/-- The transfer phases and the HLT gate of a verify write no timer but the idle timer, when they end the command
(40_common R170). -/
theorem transfer_timersBelow (e : TickEvents) (h : TimersBelow i d s.timers) :
    TimersBelow i d s.verifyGate.timers ∧ TimersBelow i d (s.readDataPhase e).timers
      ∧ TimersBelow i d (s.writeGapPhase e).timers ∧ TimersBelow i d (s.writeMarkPhase e).timers
      ∧ TimersBelow i d (s.writeDataPhase e).timers ∧ TimersBelow i d (s.readAddressXfer e).timers
      ∧ TimersBelow i d (s.readTrackXfer e).timers ∧ TimersBelow i d (s.writeTrackXfer e).timers := by
  have hended := h.clear_hldIdle
  simp only [State.verifyGate, State.readDataPhase, State.writeGapPhase, State.writeMarkPhase, State.writeDataPhase,
    State.readAddressXfer, State.readTrackXfer, State.writeTrackXfer]
  refine ⟨?_, ?_, ?_, ?_, ?_, ?_, ?_, ?_⟩ <;> (repeat' split) <;> assumption

/-- Every handler keeps the timers below their limits (40_common R167). -/
theorem handler_timersBelow (n : CmdName) (e : TickEvents) (hd : 0 < d) (hdt : 0 < dt)
    (h : TimersBelow s.stepInterval d s.timers) : TimersBelow s.stepInterval d (s.handler n dt e).timers := by
  obtain ⟨hgate, hdata, hgap, hmark, hwrite, haddress, hread, htrack⟩ := transfer_timersBelow e h
  unfold State.handler
  cases s.cmd.phase
  case idle => exact h
  case t1Step => exact t1StepPhase_timersBelow n hd hdt h
  case t1Settle => exact settlePhase_timersBelow hdt h
  case t1WaitHlt => exact hgate
  case t1Verify => exact verifyPhase_timersBelow e h
  case xEDelay => exact eDelayPhase_timersBelow hdt h
  case xWaitHlt => exact hltGate_timersBelow n h
  case secSearchId => exact searchIdPhase_timersBelow n e h
  case rsSearchDam => exact searchDamPhase_timersBelow e h
  case rsData => exact hdata
  case rsCrc => exact readCrcPhase_timersBelow e h
  case wsGap => exact hgap
  case wsMark => exact hmark
  case wsData => exact hwrite
  case wsCrc => exact writeCrcPhase_timersBelow e h
  case raSearch => exact readAddressSearch_timersBelow e h
  case raXfer => exact haddress
  case rtXfer => exact hread
  case wtXfer => exact htrack

end Handlers

/-! The timing steps of a tick (60_exceptions R350 to R355). -/

section Timing

variable {i d dt : Time} {s : State}

theorem indexWidthStep_timersBelow (hdt : 0 < dt) (h : TimersBelow i d s.timers) :
    TimersBelow i d (s.indexWidthStep dt).timers := by
  unfold State.indexWidthStep
  split
  · split
    · exact { h with indexWidth := by norm_num [Config.indexWidth] }
    · rename_i hshort
      exact { h with indexWidth := count_below hdt h.indexWidth hshort }
  · exact h

/-- The accumulator `rot_acc` is not among the timers with a limit: its range is an invariant of R54. -/
theorem rotate_timersBelow (h : TimersBelow i d s.timers) : TimersBelow i d (s.rotate dt).timers := by
  rw [State.rotate_eq]
  exact { h with }

theorem indexEdge_timersBelow (h : TimersBelow i d s.timers) : TimersBelow i d s.indexEdge.timers :=
  { h with indexEnc := le_refl _, indexWidth := by norm_num [Config.indexWidth] }

theorem timingStep_timersBelow (hdt : 0 < dt) (h : TimersBelow i d s.timers) :
    TimersBelow i d (s.timingStep dt).timers := by
  have haged := indexWidthStep_timersBelow hdt h
  have hcounted : TimersBelow i d
      { (s.indexWidthStep dt).timers with indexEnc := (s.indexWidthStep dt).timers.indexEnc + dt } :=
    { haged with indexEnc := add_nonneg haged.indexEnc hdt.le }
  unfold State.timingStep
  dsimp only
  split
  · exact indexEdge_timersBelow (rotate_timersBelow hcounted)
  · exact rotate_timersBelow hcounted

theorem hltStep_timersBelow (hd : 0 < s.medium.hltDelay) (hdt : 0 < dt)
    (h : TimersBelow i s.medium.hltDelay s.timers) : TimersBelow i s.medium.hltDelay (s.hltStep dt).timers := by
  unfold State.hltStep
  split
  · split
    · exact h.clear_hlt hd
    · rename_i hshort
      exact { h with hlt := count_below hdt h.hlt hshort }
  · exact h

theorem tickHead_timersBelow (hd : 0 < s.medium.hltDelay) (hdt : 0 < dt)
    (h : TimersBelow i s.medium.hltDelay s.timers) : TimersBelow i s.medium.hltDelay (s.tickHead dt).timers := by
  have hmaster : TimersBelow i s.medium.hltDelay { s.timers with master := s.timers.master + dt } :=
    { h with master := add_nonneg h.master hdt.le }
  have htiming := timingStep_timersBelow (s := { s with timers.master := s.timers.master + dt }) hdt hmaster
  have hhlt := hltStep_timersBelow (dt := dt)
    (s := State.timingStep dt { s with timers.master := s.timers.master + dt }) (i := i)
  rw [State.timingStep_medium] at hhlt
  exact hhlt hd hdt htiming

theorem hldIdleStep_timersBelow (hdt : 0 < dt) (h : TimersBelow i d s.timers) :
    TimersBelow i d (s.hldIdleStep dt).timers := by
  unfold State.hldIdleStep
  split
  · split
    · split
      · exact h.clear_hldIdle
      · rename_i hshort
        exact { h with hldIdle := count_below hdt h.hldIdle hshort }
    · exact h
  · exact h.clear_hldIdle

end Timing

/-! The whole step. -/

/-- The timers below their limits, on a medium whose HLT delay is one of 00_scope R8. -/
structure TimersInRange (s : State) : Prop where
  delay : 0 < s.medium.hltDelay
  below : TimersBelow s.stepInterval s.medium.hltDelay s.timers

/-- With the medium and the step rate as they were, only the timers matter. -/
theorem TimersInRange.congr {s t : State} (h : TimersInRange s) (hmedium : t.medium = s.medium)
    (hrate : t.cmd.flags.rate = s.cmd.flags.rate)
    (hbelow : TimersBelow s.stepInterval s.medium.hltDelay t.timers) : TimersInRange t := by
  have hinterval : t.stepInterval = s.stepInterval := congrArg Config.stepInterval hrate
  exact ⟨hmedium ▸ h.delay, by rw [hinterval, hmedium]; exact hbelow⟩

/-- The state after reset has every timer at 0 (70_reset R381). -/
theorem resetWith_timersInRange {c : Setup} (s : State) (hdelay : 0 < c.hltDelay) : TimersInRange (s.resetWith c) where
  delay := hdelay
  below :=
    { master := le_refl _
      indexEnc := le_refl _
      indexWidth := by norm_num [State.resetWith, State.reset, Config.indexWidth]
      step := ⟨le_refl _, stepInterval_pos _⟩
      settle := by norm_num [State.resetWith, State.reset, Config.settle]
      eDelay := by norm_num [State.resetWith, State.reset, Config.eDelay]
      hldIdle := by norm_num [State.resetWith, State.reset, Config.hldIdle]
      hlt := ⟨le_refl _, hdelay⟩ }

/-- A Type I command may change the rate, and starts the step timer at 0 with it (41_type1 R200). -/
theorem startTypeI_timersInRange (v : Byte) (n : CmdName) (f : CmdFlags) (dir : Bool) {s : State}
    (h : TimersInRange s) : TimersInRange ((s.startCommon v n f).setBusy.type1Setup dir) where
  delay := by simpa using h.delay
  below := by
    rw [State.type1Setup_medium]
    exact type1Setup_timersBelow h.delay dir (stepInterval_pos _) h.below

theorem timersInRange_kept : KeptByCalls TimersInRange where
  core hcore h := h.congr hcore.medium (by rw [hcore.cmd]) (by rw [hcore.timers]; exact h.below)
  reset _ s _ hdelay := resetWith_timersInRange s (hltDelay_pos hdelay)
  startTypeI v n f dir _ _ h := startTypeI_timersInRange v n f dir h
  startTypeIIorIII v n f s _ hrate h :=
    h.congr (by simp) (by simpa [type23Setup_cmd] using hrate)
      (type23Setup_timersBelow (s := (s.startCommon v n f).setBusy) h.delay h.below)
  abort _ _ _ _ _ hrate h := h.congr rfl hrate h.below
  force c s h := by
    obtain ⟨htimers, -, -, hmedium⟩ := forceInterrupt_frame c s
    exact h.congr hmedium (by rw [forceInterrupt_flags]) (by rw [htimers]; exact h.below)
  fire s h :=
    h.congr s.fireCondition_frame.medium (by rw [s.fireCondition_frame.flags])
      (by rw [State.fireCondition_timers]; exact h.below)
  tickHead dt s hdt _ h :=
    h.congr (tickHead_medium dt s) (by rw [tickHead_cmd]) (tickHead_timersBelow h.delay hdt h.below)
  handler n dt e s hdt _ hphase h :=
    have hframe := (s.handler_handled dt e hphase).1
    h.congr hframe.medium (by rw [hframe.flags]) (handler_timersBelow n e h.delay hdt h.below)
  hldIdle dt s hdt h := h.congr (by simp) (by simp) (hldIdleStep_timersBelow hdt h.below)

/-- Settles O49: every operation keeps the timers in range, and a sound medium has a positive HLT delay. -/
theorem stepKeepsTimersBelowTheirLimits : Obligations.StepKeepsTimersBelowTheirLimits := by
  intro s t hsound htimers hstep
  have hrange : TimersInRange s := ⟨hltDelay_pos hsound.hltDelay, (timersBounded_iff s).mp htimers⟩
  exact (timersBounded_iff t).mpr (timersInRange_kept.step hstep hrange).below

end Sys2Proof.Proofs

/-! PROOFS. The counters stay in range and no phase overruns its count (10_state R53, 40_common R178). -/

namespace Sys2Proof.Proofs

open Sys2Proof.Machine Sys2Proof.Claims

/-! The detector and the ID buffer. -/

/-- The part of the bounds that no phase changes: the detector's sync count and the ID field being collected. -/
structure DetectorInRange (q : Search) : Prop where
  sc : q.sc ≤ 3
  idCount : q.idCount ≤ 6
  collecting : q.amFound = true → q.idCount < 6

theorem countersBounded_detector {s : State} (h : s.CountersBounded) : DetectorInRange s.search :=
  ⟨h.sc, h.idCount, h.collecting⟩

/-- The sync count stops at 3 (40_common R175). -/
theorem detect_sc_le (d : Density) {q : Search} (b : Byte) (marks : List Byte) (h : q.sc ≤ 3) :
    (q.detect d b marks).1.sc ≤ 3 := by
  cases d
  case mfm =>
    simp only [Search.detect, Search.detectMfm]
    split
    · exact Nat.zero_le 3
    · split
      · rename_i hsync
        exact hsync.2.2
      · split <;> exact Nat.zero_le 3
  case fm =>
    simp only [Search.detect, Search.detectFm]
    split
    · exact h
    · split <;> exact Nat.zero_le 3

theorem detect_detectorInRange (d : Density) {q : Search} (b : Byte) (marks : List Byte) (h : DetectorInRange q) :
    DetectorInRange (q.detect d b marks).1 := by
  have hsc := detect_sc_le d b marks h.sc
  rw [Search.detect_frame]
  exact { h with sc := hsc }

theorem detect_indexCount (d : Density) (q : Search) (b : Byte) (marks : List Byte) :
    (q.detect d b marks).1.indexCount = q.indexCount := by rw [Search.detect_frame]

theorem detReset_detectorInRange {q : Search} (h : DetectorInRange q) : DetectorInRange q.detReset :=
  { h with sc := Nat.zero_le 3 }

/-- A search starts with no mark and no ID byte (40_common R174). -/
theorem searchStart_detectorInRange (s : State) : DetectorInRange s.searchStart.search :=
  ⟨Nat.zero_le 3, Nat.zero_le 6, nofun⟩

/-- The sixth byte of an ID field ends the collection (40_common R177). -/
theorem idCollect_detectorInRange {s : State} (b : Byte) (hfound : s.search.amFound = true)
    (h : DetectorInRange s.search) : DetectorInRange (s.idCollect b).search where
  sc := h.sc
  idCount := h.collecting hfound
  collecting hstill := by
    rw [State.idCollect_search] at hstill ⊢
    have hcount := h.collecting hfound
    by_cases hsixth : s.search.idCount + 1 = 6
    · simp [hsixth] at hstill
    · change s.search.idCount + 1 < 6
      omega

theorem idByte_detectorInRange {s : State} (b : Byte) (h : DetectorInRange s.search) :
    DetectorInRange (s.idByte b).search := by
  have hdetect := detect_detectorInRange s.medium.density b [0xFE] h
  rcases s.idByte_cases b with ⟨hfound, ht⟩ | ⟨-, -, ht⟩ | ⟨-, -, ht⟩ <;> rw [ht]
  · exact idCollect_detectorInRange b hfound h
  · exact hdetect
  · exact ⟨hdetect.sc, Nat.zero_le 6, fun _ => by norm_num⟩

theorem idByte_indexCount (b : Byte) (s : State) : (s.idByte b).search.indexCount = s.search.indexCount := by
  rcases s.idByte_cases b with ⟨-, ht⟩ | ⟨-, -, ht⟩ | ⟨-, -, ht⟩ <;> rw [ht]
  · rfl
  · exact detect_indexCount _ _ _ _
  · exact detect_indexCount _ _ _ _

/-! Ways to meet the bounds. -/

/-- The phases with no count and no search window. -/
def uncounted (p : Phase) : Prop :=
  p = .idle ∨ p = .t1Step ∨ p = .t1Settle ∨ p = .t1WaitHlt ∨ p = .xEDelay ∨ p = .xWaitHlt

theorem countersBounded_of_uncounted {s : State} (hq : DetectorInRange s.search) (hp : uncounted s.cmd.phase) :
    s.CountersBounded := by
  refine { hq with window := fun hsearch => ?_, unfinished := ?_ }
  · rcases hp with hp | hp | hp | hp | hp | hp <;> rw [hp] at hsearch <;> cases hsearch
  · unfold State.PhaseUnfinished
    rcases hp with hp | hp | hp | hp | hp | hp <;> rw [hp] <;> trivial

/-- The ID searches: a search window, and no count of their own. -/
theorem countersBounded_of_search {s : State} (hq : DetectorInRange s.search)
    (hp : s.cmd.phase = .t1Verify ∨ s.cmd.phase = .secSearchId ∨ s.cmd.phase = .raSearch)
    (hwindow : s.search.indexCount < Config.searchRevs) : s.CountersBounded := by
  refine { hq with window := fun _ => hwindow, unfinished := ?_ }
  unfold State.PhaseUnfinished
  rcases hp with hp | hp | hp <;> rw [hp] <;> trivial

/-- The phases of a count: no search window. -/
theorem countersBounded_of_count {s : State} (hq : DetectorInRange s.search) (hp : s.cmd.phase.searches = false)
    (hunfinished : s.PhaseUnfinished) : s.CountersBounded :=
  { hq with window := fun hsearch => absurd (hp.symm.trans hsearch) nofun, unfinished := hunfinished }

theorem countersBounded_congr {s t : State} (h : s.CountersBounded) (hsearch : t.search = s.search)
    (hphase : t.cmd.phase = s.cmd.phase) (hmedium : t.medium = s.medium) : t.CountersBounded := by
  obtain ⟨hsc, hid, hcollecting, hwindow, hunfinished⟩ := h
  constructor
  case unfinished =>
    unfold State.PhaseUnfinished at hunfinished ⊢
    rwa [hphase, hsearch, hmedium]
  all_goals simpa only [hsearch, hphase]

/-! The shared operations. -/

section Operations

variable {s : State}

theorem finish_countersBounded (hq : DetectorInRange s.search) : s.finish.CountersBounded :=
  countersBounded_of_uncounted hq (.inl rfl)

/-- The fifth edge ends the search, so a search that goes on has edges left (40_common R178). -/
theorem searchWindow_countersBounded (ie : Bool) (h : s.CountersBounded) : (s.searchWindow ie).CountersBounded := by
  have hq := countersBounded_detector h
  rcases s.searchWindow_cases ie with ⟨-, ht⟩ | ⟨-, hcount, ht⟩ | ⟨-, -, ht⟩ | ⟨-, -, ht⟩ <;> rw [ht]
  · exact h
  · exact { h with window := fun _ => hcount }
  · exact finish_countersBounded { hq with }
  · exact finish_countersBounded { hq with }

/-- The next record starts a search afresh (42_type2 R248). -/
theorem nextRecord_countersBounded (hq : DetectorInRange s.search) : s.nextRecord.CountersBounded := by
  rcases s.nextRecord_cases with ⟨-, -, ht⟩ | ⟨-, ht⟩ <;> rw [ht]
  · exact countersBounded_of_search (searchStart_detectorInRange _) (.inr (.inl rfl)) (by simp [Config.searchRevs])
  · exact finish_countersBounded hq

theorem actionDone_countersBounded (hq : DetectorInRange s.search) : s.actionDone.CountersBounded := by
  refine countersBounded_of_uncounted (by rwa [State.actionDone_search]) ?_
  rcases s.actionDone_cases with ⟨-, ht⟩ | ⟨-, ht⟩ <;> rw [ht] <;> simp [uncounted]

end Operations

/-! Type I (41_type1). -/

section TypeI

variable {s : State}

theorem restorePhase_countersBounded (dt : Time) (h : s.CountersBounded) : (s.restorePhase dt).CountersBounded := by
  have hsearch : (s.restoreStepping dt).search = s.search := by
    unfold State.restoreStepping
    (repeat' split) <;> simp
  obtain ⟨hframe, -, hcmd, -⟩ := s.restoreStepping_frame dt
  simp only [State.restorePhase]
  split
  · exact actionDone_countersBounded (by rw [hsearch]; exact countersBounded_detector h)
  · exact countersBounded_congr h hsearch (by rw [hcmd]) hframe.medium

theorem seekPhase_countersBounded (dt : Time) (h : s.CountersBounded) : (s.seekPhase dt).CountersBounded := by
  have hsearch : (s.seekStepping dt).search = s.search := by
    unfold State.seekStepping
    (repeat' split) <;> simp
  obtain ⟨hframe, -, hcmd, -⟩ := s.seekStepping_frame dt
  simp only [State.seekPhase]
  split
  · exact actionDone_countersBounded (by rw [hsearch]; exact countersBounded_detector h)
  · exact countersBounded_congr h hsearch (by rw [hcmd]) hframe.medium

theorem stepOnce_countersBounded (dt : Time) (h : s.CountersBounded) : (s.stepOnce dt).CountersBounded := by
  have hq := countersBounded_detector h
  unfold State.stepOnce
  split
  · dsimp only
    split
    · exact actionDone_countersBounded hq
    · exact actionDone_countersBounded (by simpa using hq)
  · exact countersBounded_congr h rfl rfl rfl

theorem t1StepPhase_countersBounded (n : CmdName) (dt : Time) (h : s.CountersBounded) :
    (s.t1StepPhase n dt).CountersBounded := by
  cases n
  case restore => exact restorePhase_countersBounded dt h
  case seek => exact seekPhase_countersBounded dt h
  case step | stepIn | stepOut => exact stepOnce_countersBounded dt h
  case readSector | writeSector | readAddress | readTrack | writeTrack | forceInterrupt => exact h

theorem settlePhase_countersBounded (dt : Time) (h : s.CountersBounded) : (s.settlePhase dt).CountersBounded := by
  have hq := countersBounded_detector h
  unfold State.settlePhase
  split
  · exact countersBounded_of_uncounted hq (by simp [uncounted])
  · exact countersBounded_congr h rfl rfl rfl

theorem verifyGate_countersBounded (h : s.CountersBounded) : s.verifyGate.CountersBounded := by
  unfold State.verifyGate
  split
  · exact countersBounded_of_search (searchStart_detectorInRange s) (.inl rfl) (by simp [Config.searchRevs])
  · exact h

/-- A byte of an ID search moves no index count (40_common R177). -/
theorem idByte_countersBounded (b : Byte) (hp : s.cmd.phase = .t1Verify ∨ s.cmd.phase = .secSearchId)
    (h : s.CountersBounded) : (s.idByte b).CountersBounded := by
  refine countersBounded_of_search (idByte_detectorInRange b (countersBounded_detector h)) ?_ ?_
  · rw [State.idByte_cmd]
    exact hp.imp_right .inl
  · rw [idByte_indexCount]
    exact h.window (by rcases hp with hp | hp <;> rw [hp] <;> rfl)

theorem verifyPhase_countersBounded (e : TickEvents) (hp : s.cmd.phase = .t1Verify) (h : s.CountersBounded) :
    (s.verifyPhase e).CountersBounded := by
  have hid := idByte_countersBounded e.b (.inl hp) h
  unfold State.verifyPhase
  dsimp only
  split
  · split
    · split
      · split
        · exact finish_countersBounded (countersBounded_detector hid)
        · exact searchWindow_countersBounded _ (countersBounded_congr hid rfl rfl rfl)
      · exact searchWindow_countersBounded _ hid
    · exact searchWindow_countersBounded _ hid
  · exact searchWindow_countersBounded _ h

end TypeI

/-! The start and the ID search of Types II and III (42_type2). -/

section Start

variable {s : State}

theorem eDelayPhase_countersBounded (dt : Time) (h : s.CountersBounded) : (s.eDelayPhase dt).CountersBounded := by
  have hq := countersBounded_detector h
  unfold State.eDelayPhase
  split
  · exact countersBounded_of_uncounted hq (by simp [uncounted])
  · exact countersBounded_congr h rfl rfl rfl

/-- The first data phase starts its search window or its count at 0 (42_type2 R242). -/
theorem hltGate_countersBounded (n : CmdName) (h : s.CountersBounded) : (s.hltGate n).CountersBounded := by
  have hq := countersBounded_detector h
  have hwindow : 0 < Config.searchRevs := by decide
  unfold State.hltGate
  split
  · cases n
    case readSector | writeSector =>
      exact countersBounded_of_search (searchStart_detectorInRange _) (.inr (.inl rfl)) hwindow
    case readAddress => exact countersBounded_of_search (searchStart_detectorInRange _) (.inr (.inr rfl)) hwindow
    case readTrack | writeTrack =>
      exact countersBounded_of_count { hq with } rfl (Config.trackLen_pos _)
    case restore | seek | step | stepIn | stepOut | forceInterrupt => exact countersBounded_congr h rfl rfl rfl
  · exact h

/-- The data-mark search and the write gap start their counts at 0 (42_type2 R244). -/
theorem idMatched_countersBounded (n : CmdName) (h : s.CountersBounded)
    (hwindow : s.search.indexCount < Config.searchRevs) : (s.idMatched n).CountersBounded := by
  have hq := countersBounded_detector h
  unfold State.idMatched
  split
  · exact
      { detReset_detectorInRange hq with
        window := fun _ => hwindow
        unfinished := show 0 < Config.damWindow s.medium.density by cases s.medium.density <;> decide }
  · exact countersBounded_of_count { hq with } rfl
      (show 0 < Config.writeGap s.medium.density by cases s.medium.density <;> decide)

theorem searchIdPhase_countersBounded (n : CmdName) (e : TickEvents) (hp : s.cmd.phase = .secSearchId)
    (h : s.CountersBounded) : (s.searchIdPhase n e).CountersBounded := by
  have hid := idByte_countersBounded e.b (.inr hp) h
  have hwindow : (s.idByte e.b).search.indexCount < Config.searchRevs := hid.window (by simp [hp, Phase.searches])
  unfold State.searchIdPhase
  dsimp only
  split
  · split
    · split
      · split
        · exact idMatched_countersBounded n hid hwindow
        · exact searchWindow_countersBounded _ (countersBounded_congr hid rfl rfl rfl)
      · exact searchWindow_countersBounded _ hid
    · exact searchWindow_countersBounded _ hid
  · exact searchWindow_countersBounded _ h

end Start

/-! READ SECTOR and WRITE SECTOR (42_type2 sections 3 and 4). -/

section Sectors

variable {s : State}

/-- The data-mark search ends with its mark or its window, and counts on only inside the window (42_type2 R245). -/
theorem searchDamPhase_countersBounded (e : TickEvents) (hlen : 0 < s.medium.geom.slen)
    (hp : s.cmd.phase = .rsSearchDam) (h : s.CountersBounded) : (s.searchDamPhase e).CountersBounded := by
  have hwindow : s.search.indexCount < Config.searchRevs := h.window (by rw [hp]; rfl)
  have hcounted : DetectorInRange { s.search with damCount := s.search.damCount + 1 } :=
    { countersBounded_detector h with }
  have hdetect := detect_detectorInRange s.medium.density e.b [0xFB, 0xF8] hcounted
  unfold State.searchDamPhase
  dsimp only
  split
  · split
    · exact countersBounded_of_count { hdetect with } rfl hlen
    · split
      · refine countersBounded_of_search ⟨Nat.zero_le 3, hdetect.idCount, nofun⟩ (.inr (.inl rfl)) ?_
        change (Search.detect _ _ _ _).1.indexCount < _
        rwa [detect_indexCount]
      · rename_i hshort
        refine searchWindow_countersBounded _ { hdetect with window := fun _ => ?_, unfinished := ?_ }
        · change (Search.detect _ _ _ _).1.indexCount < _
          rwa [detect_indexCount]
        · unfold State.PhaseUnfinished
          rw [State.detect_cmd, hp]
          exact not_le.mp hshort
  · exact searchWindow_countersBounded _ h

theorem readDataPhase_countersBounded (e : TickEvents) (hp : s.cmd.phase = .rsData) (h : s.CountersBounded) :
    (s.readDataPhase e).CountersBounded := by
  have hq := countersBounded_detector h
  have hleft : s.search.xferCount < s.medium.geom.slen := by simpa [State.PhaseUnfinished, hp] using h.unfinished
  simp only [State.readDataPhase]
  split
  · split
    · exact countersBounded_of_count { hq with } rfl (by decide : 0 < 2)
    · rename_i hmore
      refine countersBounded_of_count { hq with } (by simp [hp, Phase.searches]) ?_
      simp only [State.PhaseUnfinished, State.crcByte_cmd, State.deliver_cmd, hp]
      exact lt_of_le_of_ne hleft hmore
  · exact h

theorem crcBufByte_detectorInRange (b : Byte) (hq : DetectorInRange s.search) :
    DetectorInRange (s.crcBufByte b).search := by
  rcases s.crcBufByte_cases b with ⟨-, ht⟩ | ⟨-, ht⟩ | ⟨-, ht⟩ <;> rw [ht] <;> exact { hq with }

theorem crcBufByte_crcCount (b : Byte) (s : State) : (s.crcBufByte b).search.crcCount = s.search.crcCount + 1 := by
  rcases s.crcBufByte_cases b with ⟨-, ht⟩ | ⟨-, ht⟩ | ⟨-, ht⟩ <;> rw [ht]

theorem readCrcPhase_countersBounded (e : TickEvents) (hp : s.cmd.phase = .rsCrc) (h : s.CountersBounded) :
    (s.readCrcPhase e).CountersBounded := by
  have hq := crcBufByte_detectorInRange e.b (countersBounded_detector h)
  have hleft : s.search.crcCount < 2 := by simpa [State.PhaseUnfinished, hp] using h.unfinished
  simp only [State.readCrcPhase]
  split
  · split
    · split
      · exact nextRecord_countersBounded hq
      · exact finish_countersBounded hq
    · rename_i hmore
      refine countersBounded_of_count hq (by simp [hp, Phase.searches]) ?_
      simp only [State.PhaseUnfinished, State.crcBufByte_cmd, hp]
      rw [crcBufByte_crcCount] at hmore ⊢
      omega
  · exact h

theorem writeGapPhase_countersBounded (e : TickEvents) (hp : s.cmd.phase = .wsGap) (h : s.CountersBounded) :
    (s.writeGapPhase e).CountersBounded := by
  have hq := countersBounded_detector h
  have hleft : s.search.wcount < Config.writeGap s.medium.density := by
    simpa [State.PhaseUnfinished, hp] using h.unfinished
  simp only [State.writeGapPhase]
  split
  · split
    · split
      · exact finish_countersBounded { hq with }
      · exact countersBounded_of_count { hq with } rfl
          (show 0 < Config.writeMark s.medium.density by cases s.medium.density <;> decide)
    · rename_i hmore
      refine countersBounded_of_count { hq with } (by simp [hp, Phase.searches]) ?_
      simp only [State.PhaseUnfinished, hp]
      exact lt_of_le_of_ne hleft hmore
  · exact h

theorem writeMarkPhase_countersBounded (e : TickEvents) (hlen : 0 < s.medium.geom.slen) (hp : s.cmd.phase = .wsMark)
    (h : s.CountersBounded) : (s.writeMarkPhase e).CountersBounded := by
  have hq := countersBounded_detector h
  have hleft : s.search.wcount < Config.writeMark s.medium.density := by
    simpa [State.PhaseUnfinished, hp] using h.unfinished
  simp only [State.writeMarkPhase]
  split
  · split
    · exact countersBounded_of_count { hq with } rfl hlen
    · rename_i hmore
      refine countersBounded_of_count { hq with } (by simp [hp, Phase.searches]) ?_
      simp only [State.PhaseUnfinished, hp]
      exact lt_of_le_of_ne hleft hmore
  · exact h

theorem writeDataPhase_countersBounded (e : TickEvents) (hp : s.cmd.phase = .wsData) (h : s.CountersBounded) :
    (s.writeDataPhase e).CountersBounded := by
  have hq := countersBounded_detector h
  simp only [State.writeDataPhase]
  split
  · split
    · rename_i hmore
      refine countersBounded_of_count { hq with } (by simp [hp, Phase.searches]) ?_
      simp only [State.PhaseUnfinished, State.crcByte_cmd, State.take_cmd, hp]
      exact hmore
    · exact countersBounded_of_count { hq with } rfl (by decide : 0 < 2)
  · exact h

theorem writeCrcPhase_countersBounded (e : TickEvents) (hp : s.cmd.phase = .wsCrc) (h : s.CountersBounded) :
    (s.writeCrcPhase e).CountersBounded := by
  have hq := countersBounded_detector h
  have hleft : s.search.crcCount < 2 := by simpa [State.PhaseUnfinished, hp] using h.unfinished
  simp only [State.writeCrcPhase]
  split
  · split
    · exact nextRecord_countersBounded { hq with }
    · rename_i hmore
      refine countersBounded_of_count { hq with } (by simp [hp, Phase.searches]) ?_
      simp only [State.PhaseUnfinished, hp]
      omega
  · exact h

end Sectors

/-! Type III (43_type3). -/

section TypeIII

variable {s : State}

theorem readAddressSearch_countersBounded (e : TickEvents) (hp : s.cmd.phase = .raSearch) (h : s.CountersBounded) :
    (s.readAddressSearch e).CountersBounded := by
  have hdetect := detect_detectorInRange s.medium.density e.b [0xFE] (countersBounded_detector h)
  have hwindow : (s.detect e.b [0xFE]).search.indexCount < Config.searchRevs := by
    rw [State.detect_search, detect_indexCount]
    exact h.window (by rw [hp]; rfl)
  unfold State.readAddressSearch
  split
  · split
    · exact countersBounded_of_count { hdetect with } rfl (by decide : 0 < 6)
    · exact searchWindow_countersBounded _ (countersBounded_of_search hdetect (.inr (.inr hp)) hwindow)
  · exact searchWindow_countersBounded _ h

theorem readAddressXfer_countersBounded (e : TickEvents) (hp : s.cmd.phase = .raXfer) (h : s.CountersBounded) :
    (s.readAddressXfer e).CountersBounded := by
  have hq := countersBounded_detector h
  have hleft : s.search.xferCount < 6 := by simpa [State.PhaseUnfinished, hp] using h.unfinished
  simp only [State.readAddressXfer]
  split
  · split
    · exact finish_countersBounded { hq with }
    · rename_i hmore
      refine countersBounded_of_count { hq with } (by simp [hp, Phase.searches]) ?_
      simp only [State.PhaseUnfinished, State.readAddressByte_cmd, hp]
      exact lt_of_le_of_ne hleft hmore
  · exact h

theorem readTrackXfer_countersBounded (e : TickEvents) (hp : s.cmd.phase = .rtXfer) (h : s.CountersBounded) :
    (s.readTrackXfer e).CountersBounded := by
  have hq := countersBounded_detector h
  have hleft : s.search.xferCount < Config.trackLen s.medium.density := by
    simpa [State.PhaseUnfinished, hp] using h.unfinished
  simp only [State.readTrackXfer]
  split
  · split
    · exact finish_countersBounded { hq with }
    · rename_i hmore
      refine countersBounded_of_count { hq with } (by simp [hp, Phase.searches]) ?_
      simp only [State.PhaseUnfinished, State.deliver_cmd, hp]
      exact lt_of_le_of_ne hleft hmore
  · exact h

theorem writeTrackXfer_countersBounded (e : TickEvents) (hp : s.cmd.phase = .wtXfer) (h : s.CountersBounded) :
    (s.writeTrackXfer e).CountersBounded := by
  have hq := countersBounded_detector h
  simp only [State.writeTrackXfer]
  split
  · split
    · exact finish_countersBounded hq
    · split
      · rename_i hmore
        refine countersBounded_of_count { hq with } (by simp [hp, Phase.searches]) ?_
        simp only [State.PhaseUnfinished, State.take_cmd, hp]
        exact hmore
      · exact finish_countersBounded { hq with }
  · exact h

end TypeIII

/-! The whole step. -/

/-- Every handler keeps the bounds (40_common R167). -/
theorem handler_countersBounded (n : CmdName) (dt : Time) (e : TickEvents) {s : State}
    (hlen : 0 < s.medium.geom.slen) (h : s.CountersBounded) : (s.handler n dt e).CountersBounded := by
  unfold State.handler
  cases hp : s.cmd.phase
  case idle => exact h
  case t1Step => exact t1StepPhase_countersBounded n dt h
  case t1Settle => exact settlePhase_countersBounded dt h
  case t1WaitHlt => exact verifyGate_countersBounded h
  case t1Verify => exact verifyPhase_countersBounded e hp h
  case xEDelay => exact eDelayPhase_countersBounded dt h
  case xWaitHlt => exact hltGate_countersBounded n h
  case secSearchId => exact searchIdPhase_countersBounded n e hp h
  case rsSearchDam => exact searchDamPhase_countersBounded e hlen hp h
  case rsData => exact readDataPhase_countersBounded e hp h
  case rsCrc => exact readCrcPhase_countersBounded e hp h
  case wsGap => exact writeGapPhase_countersBounded e hp h
  case wsMark => exact writeMarkPhase_countersBounded e hlen hp h
  case wsData => exact writeDataPhase_countersBounded e hp h
  case wsCrc => exact writeCrcPhase_countersBounded e hp h
  case raSearch => exact readAddressSearch_countersBounded e hp h
  case raXfer => exact readAddressXfer_countersBounded e hp h
  case rtXfer => exact readTrackXfer_countersBounded e hp h
  case wtXfer => exact writeTrackXfer_countersBounded e hp h

/-- A well-formed geometry has sectors with bytes (20_memory R101). -/
theorem slen_pos_of_wf {d : Density} {g : Geometry} (h : g.wf d = true) : 0 < g.slen := by
  simp only [Geometry.wf, Bool.and_eq_true, decide_eq_true_eq] at h
  obtain ⟨⟨-, hslen⟩, -⟩ := h
  omega

/-- The counters in range, on a medium whose sectors have bytes. -/
structure CountersInRange (s : State) : Prop where
  slen : 0 < s.medium.geom.slen
  bounded : s.CountersBounded

theorem CountersInRange.congr {s t : State} (h : CountersInRange s) (hsearch : t.search = s.search)
    (hphase : t.cmd.phase = s.cmd.phase) (hmedium : t.medium = s.medium) : CountersInRange t :=
  ⟨hmedium ▸ h.slen, countersBounded_congr h.bounded hsearch hphase hmedium⟩

/-- A command that starts or ends leaves the search alone and enters a phase with no count. -/
theorem CountersInRange.uncounted {s t : State} (h : CountersInRange s) (hsearch : t.search = s.search)
    (hphase : uncounted t.cmd.phase) (hmedium : t.medium = s.medium) : CountersInRange t :=
  ⟨hmedium ▸ h.slen, countersBounded_of_uncounted (hsearch ▸ countersBounded_detector h.bounded) hphase⟩

theorem forceInterrupt_countersInRange (c : BitVec 4) {s : State} (h : CountersInRange s) :
    CountersInRange (s.forceInterrupt c) := by
  obtain ⟨-, -, hsearch, hmedium⟩ := forceInterrupt_frame c s
  rcases forceInterrupt_cases c s with ⟨-, hcmd, -⟩ | ⟨-, hcmd, -⟩ | ⟨-, hcmd, -⟩
  · exact h.congr hsearch (by rw [hcmd]) hmedium
  · exact h.uncounted hsearch (by rw [hcmd]; exact .inl rfl) hmedium
  · exact h.congr hsearch (by rw [hcmd]) hmedium

theorem fireCondition_countersInRange {s : State} (h : CountersInRange s) : CountersInRange s.fireCondition := by
  rcases s.fireCondition_cases with ⟨-, ht⟩ | ⟨-, ht⟩ <;> rw [ht]
  · exact h.congr rfl rfl rfl
  · exact h.uncounted rfl (.inl rfl) rfl

theorem countersInRange_kept : KeptByCalls CountersInRange where
  core hcore h := h.congr hcore.search (by rw [hcore.cmd]) hcore.medium
  reset c s hmedium _ := by
    simp only [Setup.mediumWf, Bool.and_eq_true] at hmedium
    obtain ⟨⟨hgeom, -⟩, -⟩ := hmedium
    exact ⟨slen_pos_of_wf hgeom,
      countersBounded_of_uncounted ⟨Nat.zero_le 3, Nat.zero_le 6, nofun⟩ (.inl rfl)⟩
  startTypeI _ _ _ _ _ _ h := h.uncounted (by simp) (by simp [type1Setup_cmd, uncounted]) (by simp)
  startTypeIIorIII _ _ _ _ _ _ h :=
    h.uncounted (by simp) (by rw [type23Setup_cmd]; dsimp only; split <;> simp [uncounted]) (by simp)
  abort _ _ _ _ _ _ h := h.congr rfl rfl rfl
  force c _ h := forceInterrupt_countersInRange c h
  fire _ h := fireCondition_countersInRange h
  tickHead dt s _ _ h := h.congr (tickHead_search dt s) (by rw [tickHead_cmd]) (tickHead_medium dt s)
  handler n dt e s _ _ hphase h :=
    ⟨by rw [(s.handler_handled dt e hphase).1.medium]; exact h.slen, handler_countersBounded n dt e h.slen h.bounded⟩
  hldIdle _ _ _ h := h.congr (by simp) (by simp) (by simp)

/-- Settles O50: every operation keeps the counters in range, and a sound medium has sectors with bytes. -/
theorem stepKeepsCountersInRange : Obligations.StepKeepsCountersInRange := by
  intro s t hsound hcounters hstep
  have hrange : CountersInRange s := ⟨slen_pos_of_wf hsound.geometry, hcounters⟩
  exact (countersInRange_kept.step hstep hrange).bounded

end Sys2Proof.Proofs

/-! PROOFS. The status register, and what sets BUSY (10_state R27, R28, R55). -/

namespace Sys2Proof.Proofs

open Sys2Proof.Machine Sys2Proof.Claims

/-- Settles O13: `status_refresh()` is the write of `STR`, and each layout is a byte built from its bits. -/
theorem statusRegisterLayouts : Obligations.StatusRegisterLayouts := by
  intro s
  refine ⟨rfl, fun hlayout => ?typeI, fun hlayout => ?typeIIandIII⟩
  case typeI =>
    have htrack : (!s.notTrack00) = decide (s.head.currentTrack = 0) := by simp [State.notTrack00]
    simp only [State.statusRefresh_regs, State.status, hlayout, State.statusTypeI, htrack]
    exact byteOfBits_bits _ _ _ _ _ _ _ _
  case typeIIandIII =>
    simp only [State.statusRefresh_regs, State.status, hlayout, State.statusTypeIIandIII]
    exact byteOfBits_bits _ _ _ _ _ _ _ _

/-- The decoder reads a command of the type the byte is classified as (30_encoding R121). -/
theorem decode_type (v : Byte) : (commandName (decode v)).type = classify v := by
  unfold decode
  cases classify v
  case I =>
    simp only [decodeTypeI]
    (repeat' split) <;> rfl
  case II =>
    simp only [decodeTypeII]
    split <;> rfl
  case III =>
    simp only [decodeTypeIII]
    (repeat' split) <;> rfl
  case IV => rfl

/-- BUSY set by a command byte: a Type I byte, or a Type II or III byte with the drive ready (40_common R157, R159). -/
theorem exec_sets_busy {i : Instr} {s t : State} (h : exec i s = .next t) (hdone : s.prog.commandDone = true)
    (hbusy : t.prog.commandDone = false) :
    (commandName i).type ≠ .IV ∧ ((commandName i).type = .I ∨ s.pins.ready = true)
      ∧ t.cmd.cmdType = some (commandName i).type := by
  rcases exec_cases i s with ⟨htype, f, dir, hI⟩ | ⟨htype, f, hII⟩ | ⟨c, -, hIV⟩
  · obtain rfl := Host.Outcome.next.inj (hI.symm.trans h)
    rcases s.writeTypeI_cases (encode i) (commandName i) f dir with ⟨hinflight, -⟩ | ⟨-, ht⟩
    · exact absurd (hdone.symm.trans hinflight) nofun
    · exact ⟨by rw [htype]; nofun, .inl htype, by simp [ht, type1Setup_cmd]⟩
  · obtain rfl := Host.Outcome.next.inj (hII.symm.trans h)
    rcases s.writeTypeIIorIII_cases (encode i) (commandName i) f with ⟨hinflight, -⟩ | ⟨-, -, ht⟩ | ⟨-, hready, ht⟩
    · exact absurd (hdone.symm.trans hinflight) nofun
    · rw [ht] at hbusy
      exact absurd (hdone.symm.trans hbusy) nofun
    · exact ⟨by rcases htype with htype | htype <;> rw [htype] <;> nofun, .inr hready, by simp [ht, type23Setup_cmd]⟩
  · obtain rfl := Host.Outcome.next.inj (hIV.symm.trans h)
    rcases forceInterrupt_cases c s with ⟨-, -, hprog⟩ | ⟨hinflight, -⟩ | ⟨hinflight, -⟩
    · rw [State.statusRefresh_prog, hprog] at hbusy
      exact absurd (hdone.symm.trans hbusy) nofun
    · exact absurd (hdone.symm.trans hinflight) nofun
    · exact absurd (hdone.symm.trans hinflight) nofun

theorem fireCondition_keeps_done {s : State} (h : s.prog.commandDone = true) :
    s.fireCondition.prog.commandDone = true := by
  rcases s.fireCondition_cases with ⟨-, ht⟩ | ⟨-, ht⟩ <;> rw [ht]
  · exact h
  · rfl

/-- No tick starts a command: with none in flight step 4 is at most a condition that fires (40_common R165). -/
theorem tick_keeps_done (dt : Time) {s : State} (h : s.prog.commandDone = true) :
    (s.tick dt).prog.commandDone = true := by
  have hhead : (s.tickHead dt).prog.commandDone = true := by rwa [tickHead_prog]
  simp only [State.tick, State.statusRefresh_prog, State.hldIdleStep_prog]
  rcases (s.tickHead dt).commandStep_cases dt (s.tickEvents dt)
    with ⟨-, -, ht⟩ | ⟨-, -, ht⟩ | ⟨-, hbusy, -⟩ | ⟨-, hbusy, -⟩
  · rw [ht]
    exact fireCondition_keeps_done hhead
  · rwa [ht]
  · exact absurd (hhead.symm.trans hbusy) nofun
  · exact absurd (hhead.symm.trans hbusy) nofun

theorem setReady_keeps_done (level : Bool) {s : State} (h : s.prog.commandDone = true) :
    (s.setReady level).prog.commandDone = true := by
  unfold State.setReady
  rw [State.statusRefresh_prog]
  rcases State.readyConditions_cases s.pins.ready level { s with pins.ready := level } with ⟨-, ht⟩ | ⟨-, ht⟩ <;> rw [ht]
  · exact fireCondition_keeps_done (s := { s with pins.ready := level }) h
  · exact h

/-- Settles O57: of the calls, only a command byte can take `command_done` from 1 to 0. -/
theorem onlyAcceptedCommandsSetBusy : Obligations.OnlyAcceptedCommandsSetBusy := by
  intro s t hstep hdone hbusy
  have contradiction {u : State} (hu : u.prog.commandDone = true) (hb : u.prog.commandDone = false) : False :=
    absurd (hu.symm.trans hb) nofun
  rcases step_cases hstep with ⟨-, rfl⟩ | ⟨c, rest, hcalls, hcall⟩
  · exact (contradiction hdone hbusy).elim
  · have hidle : (s.takeCall rest).prog.commandDone = true := hdone
    rcases runCall_cases hcall with ⟨p, -, -, -, rfl⟩ | ⟨v, rfl, hexec⟩ | ⟨p, v, -, -, rfl⟩ | ⟨p, -, rfl⟩
      | ⟨dt, -, -, -, -, rfl⟩ | ⟨level, -, rfl⟩ | ⟨-, rfl⟩
    · exact (contradiction rfl hbusy).elim
    · obtain ⟨hnotIV, hready, htype⟩ := exec_sets_busy hexec hdone hbusy
      rw [decode_type] at hnotIV hready htype
      exact ⟨v, rest, hcalls, hnotIV, hready, htype⟩
    · rw [(writePort_sameCore p v _).prog] at hbusy
      exact (contradiction hdone hbusy).elim
    · rw [(readPort_sameCore p _).prog] at hbusy
      exact (contradiction hdone hbusy).elim
    · exact (contradiction (tick_keeps_done dt hidle) hbusy).elim
    · exact (contradiction (setReady_keeps_done level hidle) hbusy).elim
    · exact (contradiction hdone hbusy).elim

end Sys2Proof.Proofs

/-! PROOFS. What no rule reads has no effect: every operation gives the same state, up to the records, whether the
records are there or erased (10_state R21, R25, R31, R42, R46, R51, R52, 44_type4 R316, 60_exceptions R353, R356). -/

namespace Sys2Proof.Proofs

open Sys2Proof.Machine Sys2Proof.Claims

/-! Reading no record, and how that composes. -/

section Combinators

variable {α β : Type} {seen : α → β}

/-- Whether the records are erased first makes no difference to what is seen of `f`. -/
def IgnoresRecords (seen : α → β) (f : State → α) : Prop := ∀ s : State, seen (f s) = seen (f s.forgetRecords)

/-- An operation on the state writes records at most from records. -/
abbrev OpIgnoresRecords (f : State → State) : Prop := IgnoresRecords State.forgetRecords f

theorem IgnoresRecords.id : OpIgnoresRecords fun s => s := fun _ => rfl

theorem IgnoresRecords.comp {f : State → State} {g : State → α} (hg : IgnoresRecords seen g)
    (hf : OpIgnoresRecords f) : IgnoresRecords seen fun s => g (f s) := fun s =>
  calc seen (g (f s)) = seen (g (f s).forgetRecords) := hg (f s)
    _ = seen (g (f s.forgetRecords).forgetRecords) := by rw [hf s]
    _ = seen (g (f s.forgetRecords)) := (hg (f s.forgetRecords)).symm

theorem IgnoresRecords.ite {p : State → Prop} [DecidablePred p] {f g : State → α}
    (hp : ∀ s : State, p s ↔ p s.forgetRecords) (hf : IgnoresRecords seen f) (hg : IgnoresRecords seen g) :
    IgnoresRecords seen fun s => if p s then f s else g s := by
  intro s
  by_cases h : p s
  · simpa only [if_pos h, if_pos ((hp s).mp h)] using hf s
  · simpa only [if_neg h, if_neg (mt (hp s).mpr h)] using hg s

end Combinators

/-! The shared operations (40_common sections 2, 4 and 6). -/

theorem statusRefresh_ignores : OpIgnoresRecords State.statusRefresh := fun _ => rfl

theorem finish_ignores : OpIgnoresRecords State.finish := fun _ => rfl

theorem terminate_ignores : OpIgnoresRecords State.terminate := fun _ => rfl

theorem hldSet_ignores : OpIgnoresRecords State.hldSet :=
  .ite (p := fun s => s.pins.hld = true) (fun _ => .rfl) (fun _ => rfl) (fun _ => rfl)

theorem fireCondition_ignores : OpIgnoresRecords State.fireCondition :=
  .comp (f := fun s => ({ s with pins.intrq := true } : State))
    (.ite (p := fun s => s.prog.commandDone = true) (fun _ => .rfl) .id terminate_ignores) (fun _ => rfl)

theorem startCommon_ignores (v : Byte) (n : CmdName) (f : CmdFlags) : OpIgnoresRecords (State.startCommon v n f) :=
  fun _ => rfl

theorem headLoadAtStart_ignores : OpIgnoresRecords State.headLoadAtStart :=
  .ite (p := fun s => s.cmd.flags.headLoad = true) (g := fun s => ({ s with pins.hld := false } : State)) (fun _ => .rfl)
    hldSet_ignores (fun _ => rfl)

theorem type1Setup_ignores (dir : Bool) : OpIgnoresRecords (State.type1Setup dir) :=
  .comp (f := State.headLoadAtStart)
    (g := fun s => ({ s with pins.direction := dir, timers.step := 0, cmd.phase := .t1Step } : State))
    (fun _ => rfl) headLoadAtStart_ignores

theorem type23Setup_ignores : OpIgnoresRecords State.type23Setup :=
  .comp (f := fun s => State.hldSet { s with pins.sideSelect := s.cmd.flags.updateSide })
    (g := fun s => ({ s with timers.eDelay := 0, cmd.phase := if s.cmd.flags.eDelay then .xEDelay else .xWaitHlt } : State))
    (fun _ => rfl)
    (.comp (f := fun s => ({ s with pins.sideSelect := s.cmd.flags.updateSide } : State)) hldSet_ignores (fun _ => rfl))

theorem setImageOffset_ignores : OpIgnoresRecords State.setImageOffset := fun s => by
  rw [s.setImageOffset_eq, s.forgetRecords.setImageOffset_eq]
  rfl

theorem detect_ignores (b : Byte) (marks : List Byte) : OpIgnoresRecords (State.detect b marks) := fun _ => rfl

theorem idHunt_ignores (b : Byte) : OpIgnoresRecords (State.idHunt b) := by
  intro s
  have hmark : s.forgetRecords.detected b [0xFE] = s.detected b [0xFE] := rfl
  unfold State.idHunt
  rw [hmark]
  cases s.detected b [0xFE] with
  | none => rfl
  | some m => rfl

theorem idByte_ignores (b : Byte) : OpIgnoresRecords (State.idByte b) :=
  .ite (p := fun s => s.search.amFound = true) (f := State.idCollect b) (fun _ => .rfl) (fun _ => rfl)
    (idHunt_ignores b)

theorem searchFail_ignores : OpIgnoresRecords State.searchFail :=
  .ite (p := fun s => s.cmd.phase = .t1Verify)
    (f := fun s => State.finish { s with latched.seekError := true })
    (g := fun s => State.finish { s with latched.rnf := true })
    (fun _ => .rfl) (fun _ => rfl) (fun _ => rfl)

theorem searchWindow_ignores (ie : Bool) : OpIgnoresRecords (State.searchWindow ie) :=
  .ite (p := fun _ => ie = true) (fun _ => .rfl)
    (.comp (f := fun s => ({ s with search.indexCount := s.search.indexCount + 1 } : State))
      (.ite (p := fun s => Config.searchRevs ≤ s.search.indexCount) (fun _ => .rfl) searchFail_ignores .id)
      (fun _ => rfl))
    .id

theorem nextRecord_ignores : OpIgnoresRecords State.nextRecord :=
  .ite (p := fun s => s.cmd.flags.multi = true ∧ s.regs.sr.toNat + 1 ≤ s.medium.geom.spt) (fun _ => .rfl)
    (.comp (f := fun s => State.setImageOffset { s with regs.sr := s.regs.sr + 1 })
      (g := fun s => ({ s.searchStart with cmd.phase := .secSearchId } : State))
      (fun _ => rfl)
      (.comp (f := fun s => ({ s with regs.sr := s.regs.sr + 1 } : State)) setImageOffset_ignores (fun _ => rfl)))
    finish_ignores

theorem actionDone_ignores : OpIgnoresRecords State.actionDone :=
  .comp (f := fun s => ({ s with prog.commandActionDone := true } : State))
    (.ite (p := fun s => s.cmd.flags.verify = true) (fun _ => .rfl)
      (.comp (f := State.hldSet) (g := fun s => ({ s with timers.settle := 0, cmd.phase := .t1Settle } : State))
        (fun _ => rfl) hldSet_ignores)
      finish_ignores)
    (fun _ => rfl)

theorem physStep_ignores (dir : Bool) : OpIgnoresRecords (State.physStep dir) :=
  .ite (p := fun _ => dir = true) (fun _ => .rfl)
    (.ite (p := fun s => s.head.currentTrack + 1 < s.medium.geom.cyl)
      (f := fun s => ({ s with head.currentTrack := s.head.currentTrack + 1 } : State)) (fun _ => .rfl) (fun _ => rfl) .id)
    (.ite (p := fun s => 0 < s.head.currentTrack)
      (f := fun s => ({ s with head.currentTrack := s.head.currentTrack - 1 } : State)) (fun _ => .rfl) (fun _ => rfl) .id)

/-! Type I (41_type1). -/

theorem restorePhase_ignores (dt : Time) : OpIgnoresRecords (State.restorePhase dt) :=
  .comp (f := State.restoreStepping dt)
    (.ite (p := fun s => s.head.currentTrack = 0) (fun _ => .rfl)
      (.comp (f := fun s => ({ s with regs.tr := 0x00 } : State)) actionDone_ignores (fun _ => rfl)) .id)
    (.ite (p := fun s => s.head.currentTrack = 0) (fun _ => .rfl) .id
      (.ite (p := fun s => s.stepInterval ≤ s.timers.step + dt)
        (g := fun s => ({ s with timers.step := s.timers.step + dt } : State))
        (fun _ => .rfl)
        (.comp (f := fun s => ({ s with timers.step := 0 } : State)) (physStep_ignores false) (fun _ => rfl))
        (fun _ => rfl)))

theorem seekStepping_ignores (dt : Time) : OpIgnoresRecords (State.seekStepping dt) :=
  .ite (p := fun s => s.regs.tr = s.regs.dr) (fun _ => .rfl) .id
    (.ite (p := fun s => s.stepInterval ≤ s.timers.step + dt)
      (g := fun s => ({ s with timers.step := s.timers.step + dt } : State)) (fun _ => .rfl)
      (.ite (p := fun s => s.regs.tr < s.regs.dr) (fun _ => .rfl)
        (.comp (f := fun s => ({ s with timers.step := 0, pins.direction := true, regs.tr := s.regs.tr + 1 } : State))
          (physStep_ignores true) (fun _ => rfl))
        (.comp (f := fun s => ({ s with timers.step := 0, pins.direction := false, regs.tr := s.regs.tr - 1 } : State))
          (physStep_ignores false) (fun _ => rfl)))
      (fun _ => rfl))

theorem seekPhase_ignores (dt : Time) : OpIgnoresRecords (State.seekPhase dt) :=
  .comp (f := State.seekStepping dt)
    (.ite (p := fun s => s.regs.tr = s.regs.dr) (fun _ => .rfl) actionDone_ignores .id) (seekStepping_ignores dt)

theorem trackUpdate_ignores : OpIgnoresRecords State.trackUpdate :=
  .ite (p := fun s => s.cmd.flags.trackUpdate = true)
    (f := fun s => ({ s with regs.tr := if s.pins.direction then s.regs.tr + 1 else s.regs.tr - 1 } : State))
    (fun _ => .rfl) (fun _ => rfl) .id

theorem physStepAlong_ignores : OpIgnoresRecords fun s => s.physStep s.pins.direction :=
  fun s => physStep_ignores s.pins.direction s

theorem stepOnce_ignores (dt : Time) : OpIgnoresRecords (State.stepOnce dt) :=
  .ite (p := fun s => s.stepInterval ≤ s.timers.step + dt)
    (g := fun s => ({ s with timers.step := s.timers.step + dt } : State)) (fun _ => .rfl)
    (.comp (f := fun s => ({ s with timers.step := 0 } : State))
      (.ite (p := fun s => s.clamped = true) (fun _ => .rfl) actionDone_ignores
        (.comp (f := fun s => (s.physStep s.pins.direction).trackUpdate) actionDone_ignores
          (.comp (f := fun s => s.physStep s.pins.direction) trackUpdate_ignores physStepAlong_ignores)))
      (fun _ => rfl))
    (fun _ => rfl)

theorem t1StepPhase_ignores (n : CmdName) (dt : Time) : OpIgnoresRecords (State.t1StepPhase n dt) := by
  cases n
  case restore => exact restorePhase_ignores dt
  case seek => exact seekPhase_ignores dt
  case step | stepIn | stepOut => exact stepOnce_ignores dt
  case readSector | writeSector | readAddress | readTrack | writeTrack | forceInterrupt => exact .id

theorem settlePhase_ignores (dt : Time) : OpIgnoresRecords (State.settlePhase dt) :=
  .ite (p := fun s => Config.settle ≤ s.timers.settle + dt)
    (f := fun s => ({ s with timers.settle := 0, prog.headSettlingDone := true, cmd.phase := .t1WaitHlt } : State))
    (g := fun s => ({ s with timers.settle := s.timers.settle + dt } : State))
    (fun _ => .rfl) (fun _ => rfl) (fun _ => rfl)

theorem verifyGate_ignores : OpIgnoresRecords State.verifyGate :=
  .ite (p := fun s => s.pins.hlt = true) (f := fun s => ({ s.searchStart with cmd.phase := .t1Verify } : State))
    (fun _ => .rfl) (fun _ => rfl) .id

/-- An ID field with a bad CRC sets `crc_error`, and the search goes on (41_type1 R211, 42_type2 R244). -/
theorem badCrc_ignores (ie : Bool) :
    OpIgnoresRecords fun s => State.searchWindow ie { s with latched.crcError := true } :=
  .comp (f := fun s => ({ s with latched.crcError := true } : State)) (searchWindow_ignores ie) (fun _ => rfl)

/-- The search after a byte of an ID field: it goes on, or counts an index edge (40_common R178). -/
theorem idByteWindow_ignores (e : TickEvents) : OpIgnoresRecords fun s => (s.idByte e.b).searchWindow e.ie :=
  .comp (f := State.idByte e.b) (searchWindow_ignores e.ie) (idByte_ignores e.b)

theorem verifyPhase_ignores (e : TickEvents) : OpIgnoresRecords (State.verifyPhase e) := by
  have hfield (ok : Bool) : OpIgnoresRecords fun s =>
      if s.search.idBuf.track = s.regs.tr then
        if ok then s.finish else State.searchWindow e.ie { s with latched.crcError := true }
      else s.searchWindow e.ie :=
    .ite (p := fun s => s.search.idBuf.track = s.regs.tr) (fun _ => .rfl)
      (.ite (p := fun _ => ok = true) (fun _ => .rfl) finish_ignores (badCrc_ignores e.ie))
      (searchWindow_ignores e.ie)
  intro s
  have hresult : s.forgetRecords.idResult e.b = s.idResult e.b := rfl
  unfold State.verifyPhase
  rw [hresult]
  split
  · cases s.idResult e.b with
    | none => exact idByteWindow_ignores e s
    | some ok => exact (hfield ok).comp (idByte_ignores e.b) s
  · exact searchWindow_ignores e.ie s

/-! The start and the ID search of Types II and III (42_type2). -/

theorem eDelayPhase_ignores (dt : Time) : OpIgnoresRecords (State.eDelayPhase dt) :=
  .ite (p := fun s => Config.eDelay ≤ s.timers.eDelay + dt)
    (f := fun s => ({ s with timers.eDelay := 0, prog.eDelayDone := true, cmd.phase := .xWaitHlt } : State))
    (g := fun s => ({ s with timers.eDelay := s.timers.eDelay + dt } : State))
    (fun _ => .rfl) (fun _ => rfl) (fun _ => rfl)

theorem startDataPhase_ignores (n : CmdName) : OpIgnoresRecords (State.startDataPhase n) := by
  cases n
  case readSector | writeSector =>
    exact .comp (f := State.setImageOffset) (g := fun s => ({ s.searchStart with cmd.phase := .secSearchId } : State))
      (fun _ => rfl) setImageOffset_ignores
  case readAddress | readTrack | writeTrack => exact fun _ => rfl
  case restore | seek | step | stepIn | stepOut | forceInterrupt => exact .id

theorem hltGate_ignores (n : CmdName) : OpIgnoresRecords (State.hltGate n) :=
  .ite (p := fun s => s.pins.hlt = true) (fun _ => .rfl)
    (.comp (f := fun s => ({ s with prog.startByteSet := true, head.startPtr := s.head.rotPtr } : State))
      (startDataPhase_ignores n) (fun _ => rfl))
    .id

theorem idMatched_ignores (n : CmdName) : OpIgnoresRecords (State.idMatched n) :=
  .ite (p := fun _ => n = .readSector)
    (f := fun s =>
      ({ s with search := { s.search.detReset with damCount := 0 }, cmd.phase := .rsSearchDam } : State))
    (g := fun s => ({ s with search.wcount := 0, pins.drq := true, cmd.phase := .wsGap } : State))
    (fun _ => .rfl) (fun _ => rfl) (fun _ => rfl)

theorem searchIdPhase_ignores (n : CmdName) (e : TickEvents) : OpIgnoresRecords (State.searchIdPhase n e) := by
  have hfield (ok : Bool) : OpIgnoresRecords fun s =>
      if s.idMatches then
        if ok then s.idMatched n else State.searchWindow e.ie { s with latched.crcError := true }
      else s.searchWindow e.ie :=
    .ite (p := fun s => s.idMatches = true) (fun _ => .rfl)
      (.ite (p := fun _ => ok = true) (fun _ => .rfl) (idMatched_ignores n) (badCrc_ignores e.ie))
      (searchWindow_ignores e.ie)
  intro s
  have hresult : s.forgetRecords.idResult e.b = s.idResult e.b := rfl
  unfold State.searchIdPhase
  rw [hresult]
  split
  · cases s.idResult e.b with
    | none => exact idByteWindow_ignores e s
    | some ok => exact (hfield ok).comp (idByte_ignores e.b) s
  · exact searchWindow_ignores e.ie s

/-! READ SECTOR and WRITE SECTOR (42_type2 sections 3 and 4). -/

/-- A byte with no data mark in it: the window of the mark search ends, or the search goes on (42_type2 R245). -/
theorem noDataMark_ignores (e : TickEvents) : OpIgnoresRecords fun s =>
    if Config.damWindow s.medium.density ≤ s.search.damCount then
      { s with search := { s.search.detReset with amFound := false }, cmd.phase := .secSearchId }
    else s.searchWindow e.ie :=
  .ite (p := fun s => Config.damWindow s.medium.density ≤ s.search.damCount)
    (f := fun s =>
      ({ s with search := { s.search.detReset with amFound := false }, cmd.phase := .secSearchId } : State))
    (fun _ => .rfl) (fun _ => rfl) (searchWindow_ignores e.ie)

theorem searchDamPhase_ignores (e : TickEvents) : OpIgnoresRecords (State.searchDamPhase e) := by
  have hcount : OpIgnoresRecords fun s => { s with search.damCount := s.search.damCount + 1 } := fun _ => rfl
  intro s
  have hmark :
      State.detected e.b [0xFB, 0xF8]
          { s.forgetRecords with search.damCount := s.forgetRecords.search.damCount + 1 }
        = State.detected e.b [0xFB, 0xF8] { s with search.damCount := s.search.damCount + 1 } := rfl
  unfold State.searchDamPhase
  dsimp only at hmark ⊢
  rw [hmark]
  split
  · cases State.detected e.b [0xFB, 0xF8] { s with search.damCount := s.search.damCount + 1 } with
    | none => exact ((noDataMark_ignores e).comp (detect_ignores e.b [0xFB, 0xF8])).comp hcount s
    | some mark => rfl
  · exact searchWindow_ignores e.ie s

theorem readDataPhase_ignores (e : TickEvents) : OpIgnoresRecords (State.readDataPhase e) :=
  .ite (p := fun _ => e.be = true) (fun _ => .rfl)
    (.comp
      (f := fun s =>
        ({ (s.deliver e.b).crcByte e.b with search.xferCount := s.search.xferCount + 1 } : State))
      (.ite (p := fun s => s.search.xferCount = s.medium.geom.slen)
        (f := fun s => ({ s with search.crcCount := 0, cmd.phase := .rsCrc } : State))
        (fun _ => .rfl) (fun _ => rfl) .id)
      (fun _ => rfl))
    .id

theorem crcBufByte_ignores (b : Byte) : OpIgnoresRecords (State.crcBufByte b) :=
  .comp (f := fun s => ({ s with regs.dsr := b } : State))
    (.ite (p := fun s => s.search.crcCount = 0)
      (f := fun s => ({ s with search.crcHi := b, search.crcCount := s.search.crcCount + 1 } : State))
      (fun _ => .rfl) (fun _ => rfl)
      (.ite (p := fun s => s.search.crcCount = 1)
        (f := fun s => ({ s with search.crcLo := b, search.crcCount := s.search.crcCount + 1 } : State))
        (g := fun s => ({ s with search.crcCount := s.search.crcCount + 1 } : State))
        (fun _ => .rfl) (fun _ => rfl) (fun _ => rfl)))
    (fun _ => rfl)

theorem readCrcPhase_ignores (e : TickEvents) : OpIgnoresRecords (State.readCrcPhase e) :=
  .ite (p := fun _ => e.be = true) (fun _ => .rfl)
    (.comp (f := State.crcBufByte e.b)
      (.ite (p := fun s => s.search.crcCount = 2) (fun _ => .rfl)
        (.ite (p := fun s => s.regs.crc = crcOfBytes s.search.crcHi s.search.crcLo)
          (g := fun s => State.finish { s with latched.crcError := true })
          (fun _ => .rfl) nextRecord_ignores (fun _ => rfl))
        .id)
      (crcBufByte_ignores e.b))
    .id

theorem writeGapPhase_ignores (e : TickEvents) : OpIgnoresRecords (State.writeGapPhase e) :=
  .ite (p := fun _ => e.be = true) (fun _ => .rfl)
    (.comp (f := fun s => ({ s with search.wcount := s.search.wcount + 1 } : State))
      (.ite (p := fun s => s.search.wcount = Config.writeGap s.medium.density) (fun _ => .rfl)
        (.ite (p := fun s => s.pins.drq = true)
          (f := fun s => State.finish { s with latched.lostData := true, pins.drq := false })
          (g := fun s => ({ s with search.wcount := 0, cmd.phase := .wsMark } : State))
          (fun _ => .rfl) (fun _ => rfl) (fun _ => rfl))
        .id)
      (fun _ => rfl))
    .id

/-- The data address mark of a write is chosen by a flag, which is no record (42_type2 R251). -/
theorem writeMarkPhase_ignores (e : TickEvents) : OpIgnoresRecords (State.writeMarkPhase e) :=
  .ite (p := fun _ => e.be = true) (fun _ => .rfl)
    (.comp
      (f := fun s =>
        ({ s with
          regs.dsr := (syncBytes s.medium.density (dataMark s.cmd.flags.a0)).getD s.search.wcount 0x00
          search.wcount := s.search.wcount + 1 } : State))
      (.ite (p := fun s => s.search.wcount = Config.writeMark s.medium.density)
        (f := fun s => ({ s.crcMark (dataMark s.cmd.flags.a0) with search.xferCount := 0, cmd.phase := .wsData } : State))
        (fun _ => .rfl) (fun _ => rfl) .id)
      (fun _ => rfl))
    .id

theorem writeDataPhase_ignores (e : TickEvents) : OpIgnoresRecords (State.writeDataPhase e) :=
  .ite (p := fun _ => e.be = true) (fun _ => .rfl)
    (.comp
      (f := fun s => ({ s.take.crcByte s.takenByte with search.xferCount := s.search.xferCount + 1 } : State))
      (.ite (p := fun s => s.search.xferCount < s.medium.geom.slen)
        (f := fun s => ({ s with pins.drq := true } : State))
        (g := fun s => ({ s with pins.drq := false, search.crcCount := 0, cmd.phase := .wsCrc } : State))
        (fun _ => .rfl) (fun _ => rfl) (fun _ => rfl))
      (fun _ => rfl))
    .id

theorem writeCrcPhase_ignores (e : TickEvents) : OpIgnoresRecords (State.writeCrcPhase e) :=
  .ite (p := fun _ => e.be = true) (fun _ => .rfl)
    (.comp
      (f := fun s =>
        ({ s with
          search.crcCount := s.search.crcCount + 1
          regs.dsr := if s.search.crcCount + 1 = 1 then crcHiByte s.regs.crc else crcLoByte s.regs.crc } : State))
      (.ite (p := fun s => s.search.crcCount = 2) (fun _ => .rfl) nextRecord_ignores .id)
      (fun _ => rfl))
    .id

/-! Type III (43_type3). -/

theorem readAddressSearch_ignores (e : TickEvents) : OpIgnoresRecords (State.readAddressSearch e) := by
  intro s
  have hmark : s.forgetRecords.detected e.b [0xFE] = s.detected e.b [0xFE] := rfl
  unfold State.readAddressSearch
  rw [hmark]
  split
  · cases s.detected e.b [0xFE] with
    | none => exact (searchWindow_ignores e.ie).comp (detect_ignores e.b [0xFE]) s
    | some m => rfl
  · exact searchWindow_ignores e.ie s

theorem readAddressXfer_ignores (e : TickEvents) : OpIgnoresRecords (State.readAddressXfer e) :=
  .ite (p := fun _ => e.be = true) (fun _ => .rfl)
    (.comp (f := State.readAddressByte e.b)
      (.ite (p := fun s => s.search.xferCount = 6) (f := State.readAddressEnd) (fun _ => .rfl) (fun _ => rfl) .id)
      (fun _ => rfl))
    .id

theorem readTrackXfer_ignores (e : TickEvents) : OpIgnoresRecords (State.readTrackXfer e) :=
  .ite (p := fun _ => e.be = true) (fun _ => .rfl)
    (.comp (f := fun s => ({ s.deliver e.b with search.xferCount := s.search.xferCount + 1 } : State))
      (.ite (p := fun s => s.search.xferCount = Config.trackLen s.medium.density) (fun _ => .rfl) finish_ignores .id)
      (fun _ => rfl))
    .id

theorem writeTrackXfer_ignores (e : TickEvents) : OpIgnoresRecords (State.writeTrackXfer e) :=
  .ite (p := fun _ => e.be = true) (fun _ => .rfl)
    (.ite (p := fun s => s.search.xferCount = 0 ∧ s.pins.drq = true)
      (f := fun s => State.finish { s with latched.lostData := true, pins.drq := false })
      (fun _ => .rfl) (fun _ => rfl)
      (.comp (f := fun s => ({ s.take with search.xferCount := s.search.xferCount + 1 } : State))
        (.ite (p := fun s => s.search.xferCount < Config.trackLen s.medium.density)
          (f := fun s => ({ s with pins.drq := true } : State))
          (g := fun s => State.finish { s with pins.drq := false })
          (fun _ => .rfl) (fun _ => rfl) (fun _ => rfl))
        (fun _ => rfl)))
    .id

/-! A tick (40_common section 3). -/

theorem handler_ignores (n : CmdName) (dt : Time) (e : TickEvents) : OpIgnoresRecords (State.handler n dt e) := by
  intro s
  have hphase : s.forgetRecords.cmd.phase = s.cmd.phase := rfl
  unfold State.handler
  rw [hphase]
  cases s.cmd.phase
  case idle => rfl
  case t1Step => exact t1StepPhase_ignores n dt s
  case t1Settle => exact settlePhase_ignores dt s
  case t1WaitHlt => exact verifyGate_ignores s
  case t1Verify => exact verifyPhase_ignores e s
  case xEDelay => exact eDelayPhase_ignores dt s
  case xWaitHlt => exact hltGate_ignores n s
  case secSearchId => exact searchIdPhase_ignores n e s
  case rsSearchDam => exact searchDamPhase_ignores e s
  case rsData => exact readDataPhase_ignores e s
  case rsCrc => exact readCrcPhase_ignores e s
  case wsGap => exact writeGapPhase_ignores e s
  case wsMark => exact writeMarkPhase_ignores e s
  case wsData => exact writeDataPhase_ignores e s
  case wsCrc => exact writeCrcPhase_ignores e s
  case raSearch => exact readAddressSearch_ignores e s
  case raXfer => exact readAddressXfer_ignores e s
  case rtXfer => exact readTrackXfer_ignores e s
  case wtXfer => exact writeTrackXfer_ignores e s

/-- The command in flight, by its name, which is no record (10_state R43). -/
theorem commandStep_ignores (dt : Time) (e : TickEvents) : OpIgnoresRecords (State.commandStep dt e) := by
  intro s
  have hname : s.forgetRecords.cmd.cmdName = s.cmd.cmdName := rfl
  have hi2 : s.forgetRecords.cmd.armed.i2 = s.cmd.armed.i2 := rfl
  have hdone : s.forgetRecords.prog.commandDone = s.prog.commandDone := rfl
  unfold State.commandStep
  rw [hname, hi2, hdone]
  split
  · exact fireCondition_ignores s
  · split
    · rfl
    · cases s.cmd.cmdName with
      | none => rfl
      | some n => exact handler_ignores n dt e s

theorem indexWidthStep_ignores (dt : Time) : OpIgnoresRecords (State.indexWidthStep dt) :=
  .ite (p := fun s => s.pins.indexPulse = true) (fun _ => .rfl)
    (.ite (p := fun s => Config.indexWidth ≤ s.timers.indexWidth + dt)
      (f := fun s => ({ s with pins.indexPulse := false, timers.indexWidth := 0 } : State))
      (g := fun s => ({ s with timers.indexWidth := s.timers.indexWidth + dt } : State))
      (fun _ => .rfl) (fun _ => rfl) (fun _ => rfl))
    .id

theorem rotate_ignores (dt : Time) : OpIgnoresRecords (State.rotate dt) := fun s => by
  rw [State.rotate_eq, State.rotate_eq]
  rfl

theorem indexEvent_forgetRecords (dt : Time) (s : State) : s.forgetRecords.indexEvent dt = s.indexEvent dt := by
  rw [indexEvent_eq, indexEvent_eq]
  rfl

theorem timingStep_ignores (dt : Time) : OpIgnoresRecords (State.timingStep dt) :=
  .comp (f := State.indexWidthStep dt)
    (.comp (f := fun s => ({ s with timers.indexEnc := s.timers.indexEnc + dt } : State))
      (.ite (p := fun s => s.indexEvent dt = true) (fun s => by rw [indexEvent_forgetRecords])
        (.comp (f := State.rotate dt) (g := State.indexEdge) (fun _ => rfl) (rotate_ignores dt))
        (rotate_ignores dt))
      (fun _ => rfl))
    (indexWidthStep_ignores dt)

theorem hltStep_ignores (dt : Time) : OpIgnoresRecords (State.hltStep dt) :=
  .ite (p := fun s => s.pins.hld = true ∧ ¬ s.pins.hlt = true) (fun _ => .rfl)
    (.ite (p := fun s => s.medium.hltDelay ≤ s.timers.hlt + dt)
      (f := fun s => ({ s with pins.hlt := true, timers.hlt := 0 } : State))
      (g := fun s => ({ s with timers.hlt := s.timers.hlt + dt } : State))
      (fun _ => .rfl) (fun _ => rfl) (fun _ => rfl))
    .id

theorem tickHead_ignores (dt : Time) : OpIgnoresRecords (State.tickHead dt) :=
  .comp (f := fun s => (State.timingStep dt { s with timers.master := s.timers.master + dt }).hltStep dt)
    (g := State.statusStep) (fun _ => rfl)
    (.comp (f := fun s => State.timingStep dt { s with timers.master := s.timers.master + dt }) (hltStep_ignores dt)
      (.comp (f := fun s => ({ s with timers.master := s.timers.master + dt } : State)) (timingStep_ignores dt)
        (fun _ => rfl)))

theorem hldIdleStep_ignores (dt : Time) : OpIgnoresRecords (State.hldIdleStep dt) :=
  .ite (p := fun s => s.prog.commandDone = true) (g := fun s => ({ s with timers.hldIdle := 0 } : State))
    (fun _ => .rfl)
    (.ite (p := fun s => s.pins.hld = true) (fun _ => .rfl)
      (.ite (p := fun s => Config.hldIdle ≤ s.timers.hldIdle + dt)
        (f := fun s => ({ s with pins.hld := false, timers.hldIdle := 0 } : State))
        (g := fun s => ({ s with timers.hldIdle := s.timers.hldIdle + dt } : State))
        (fun _ => .rfl) (fun _ => rfl) (fun _ => rfl))
      .id)
    (fun _ => rfl)

/-- The disk's events depend on the medium, the pointer, the accumulator and the side (60_exceptions R350). -/
theorem tickEvents_forgetRecords (dt : Time) (s : State) : s.forgetRecords.tickEvents dt = s.tickEvents dt := by
  have hsame : s.forgetRecords.byteEvent dt = s.byteEvent dt := rfl
  cases h : s.byteEvent dt with
  | true =>
    rw [tickEvents_of_byteEvent h, tickEvents_of_byteEvent (hsame.trans h)]
    rfl
  | false => rw [tickEvents_of_not_byteEvent h, tickEvents_of_not_byteEvent (hsame.trans h)]

theorem tick_ignores (dt : Time) : OpIgnoresRecords (State.tick dt) := by
  intro s
  have hsteps (e : TickEvents) :
      OpIgnoresRecords fun s => (((s.tickHead dt).commandStep dt e).hldIdleStep dt).statusRefresh :=
    ((statusRefresh_ignores.comp (hldIdleStep_ignores dt)).comp (commandStep_ignores dt e)).comp (tickHead_ignores dt)
  unfold State.tick
  rw [tickEvents_forgetRecords]
  exact hsteps (s.tickEvents dt) s

/-! The entry points (40_common R150 to R155). -/

/-- What is seen of an outcome with the records erased. -/
def forgetOutcome : Host.Outcome State Fault Refusal → Host.Outcome State Fault Refusal
  | .next t => .next t.forgetRecords
  | .fault r => .fault r
  | .refused r => .refused r

/-- The call answers the same, up to the records of its next state, whether the records are there or erased. -/
abbrev CallIgnoresRecords (f : State → Host.Outcome State Fault Refusal) : Prop := IgnoresRecords forgetOutcome f

theorem OpIgnoresRecords.next {f : State → State} (h : OpIgnoresRecords f) : CallIgnoresRecords fun s => .next (f s) :=
  fun s => congrArg Host.Outcome.next (h s)

theorem writeTypeI_ignores (v : Byte) (n : CmdName) (f : CmdFlags) (dir : Bool) :
    OpIgnoresRecords (State.writeTypeI v n f dir) :=
  statusRefresh_ignores.comp
    (.ite (p := fun s => s.prog.commandDone = true) (fun _ => .rfl)
      ((type1Setup_ignores dir).comp (f := fun s => (s.startCommon v n f).setBusy) (fun _ => rfl)) .id)

theorem writeTypeIIorIII_ignores (v : Byte) (n : CmdName) (f : CmdFlags) :
    OpIgnoresRecords (State.writeTypeIIorIII v n f) :=
  statusRefresh_ignores.comp
    (.ite (p := fun s => s.prog.commandDone = true) (fun _ => .rfl)
      (.comp (f := State.startCommon v n f)
        (.ite (p := fun s => s.pins.ready = true) (g := State.notReadyAbort) (fun _ => .rfl)
          (type23Setup_ignores.comp (f := State.setBusy) (fun _ => rfl)) (fun _ => rfl))
        (startCommon_ignores v n f))
      .id)

theorem forceOnCommand_ignores (i3 : Bool) : OpIgnoresRecords (State.forceOnCommand i3) :=
  .ite (p := fun s => s.prog.commandDone = true)
    (f := fun s =>
      ({ s with
        cmd.cmdType := some .IV
        cmd.cmdName := some .forceInterrupt
        statusLayout := .typeI
        pins.drq := false } : State))
    (fun _ => .rfl) (fun _ => rfl)
    (.ite (p := fun s => s.prog.terminateCommand = true ∨ i3 = true) (fun _ => .rfl) terminate_ignores .id)

theorem forceInterrupt_ignores (c : BitVec 4) : OpIgnoresRecords (State.forceInterrupt c) :=
  .comp (f := fun s => (forceArmed c s).forceOnCommand (c.getLsbD 3))
    (g := fun s =>
      ({ s with pins.intrq := s.pins.intrq || c.getLsbD 3, prog.terminateCommand := false } : State))
    (fun _ => rfl)
    ((forceOnCommand_ignores (c.getLsbD 3)).comp (f := forceArmed c) (fun _ => rfl))

/-- The flags and the direction a command byte starts with are computed from flags and registers that are no records. -/
theorem exec_ignores (i : Instr) : CallIgnoresRecords (exec i) := by
  cases i
  case restore | seek | step | stepIn | stepOut => exact fun s => OpIgnoresRecords.next (writeTypeI_ignores _ _ _ _) s
  case readSector | writeSector | readAddress | readTrack | writeTrack =>
    exact fun s => OpIgnoresRecords.next (writeTypeIIorIII_ignores _ _ _) s
  case forceInterrupt c => exact OpIgnoresRecords.next (statusRefresh_ignores.comp (forceInterrupt_ignores c))

/-- What a read returns is no record (20_memory R71 to R81). -/
theorem portByte_forgetRecords (port : Nat) (s : State) : s.forgetRecords.portByte port = s.portByte port := by
  unfold State.portByte
  split <;> rfl

theorem portRead_ignores (port : Nat) : OpIgnoresRecords (State.portRead port) := by
  intro s
  unfold State.portRead
  split
  · rfl
  · exact IgnoresRecords.ite (seen := State.forgetRecords)
      (p := fun s => s.pins.drq = true ∧ s.lastCommand CmdName.readType = true)
      (f := fun s => ({ s with pins.drq := false } : State)) (fun _ => .rfl) (fun _ => rfl) .id s
  · rfl
  · rfl

theorem readPort_ignores (port : Nat) : OpIgnoresRecords (State.readPort port) := by
  intro s
  have hreply (v : Byte) : OpIgnoresRecords fun s => State.statusRefresh { s with reply := .byte v } := fun _ => rfl
  unfold State.readPort
  rw [portByte_forgetRecords]
  exact (hreply (s.portByte port)).comp (portRead_ignores port) s

theorem portWrite_ignores (port : Nat) (v : Byte) : OpIgnoresRecords (State.portWrite port v) := by
  intro s
  unfold State.portWrite
  split
  · rfl
  · rfl
  · exact IgnoresRecords.ite (seen := State.forgetRecords)
      (p := fun s => s.pins.drq = true ∧ s.lastCommand CmdName.writeType = true)
      (f := fun s => ({ s with regs.dr := v, pins.drq := false } : State))
      (g := fun s => ({ s with regs.dr := v } : State)) (fun _ => .rfl) (fun _ => rfl) (fun _ => rfl) s
  · rfl
  · rfl

theorem readyConditions_ignores (old new : Bool) : OpIgnoresRecords (State.readyConditions old new) :=
  .ite (p := fun s =>
      (old = false ∧ new = true ∧ s.cmd.armed.i0 = true) ∨ (old = true ∧ new = false ∧ s.cmd.armed.i1 = true))
    (fun _ => .rfl) fireCondition_ignores .id

theorem setReady_ignores (level : Bool) : OpIgnoresRecords (State.setReady level) := fun s =>
  (statusRefresh_ignores.comp (readyConditions_ignores s.pins.ready level)).comp
    (f := fun s => ({ s with pins.ready := level } : State)) (fun _ => rfl) s

theorem resetCall_ignores (c : Setup) : CallIgnoresRecords (State.resetCall c) :=
  .ite (p := fun _ => c.mediumWf = false) (fun _ => .rfl) (fun _ => rfl)
    (.ite (p := fun _ => Config.hltDelayOk c.hltDelay = false) (fun _ => .rfl) (fun _ => rfl) (fun _ => rfl))

/-- Whether a tick is refused or faults depends on no record (logs 10, 11). -/
theorem advance_ignores (dt : Time) : CallIgnoresRecords (State.advance dt) :=
  .ite (p := fun s => Config.tickOk s.medium.density dt = true) (fun _ => .rfl)
    (.ite (p := fun s => s.medium.geom.cyl ≤ s.head.currentTrack) (fun _ => .rfl) (fun _ => rfl)
      (.ite (p := fun s => s.prog.commandDone = false ∧ s.hasHandler = false) (fun _ => .rfl) (fun _ => rfl)
        (OpIgnoresRecords.next (tick_ignores dt))))
    (fun _ => rfl)

theorem runCall_ignores (c : Call) : CallIgnoresRecords (runCall c) := by
  cases c with
  | reset setup => exact resetCall_ignores setup
  | write port v =>
    exact .ite (p := fun _ => port = 0) (fun _ => .rfl) (exec_ignores (decode v))
      (OpIgnoresRecords.next (statusRefresh_ignores.comp (portWrite_ignores port v)))
  | read port => exact OpIgnoresRecords.next (readPort_ignores port)
  | advance dt => exact advance_ignores dt
  | setReady level => exact OpIgnoresRecords.next (setReady_ignores level)
  | pins => exact fun _ => rfl

theorem step_ignores : CallIgnoresRecords step := by
  intro s
  have hcalls : s.forgetRecords.calls = s.calls := rfl
  unfold step nextCall
  rw [hcalls]
  cases s.calls with
  | nil => rfl
  | cons c rest => exact (runCall_ignores c).comp (f := State.takeCall rest) (fun _ => rfl) s

/-- An outcome that shows a next state with its records erased is a next state. -/
theorem next_of_forgetOutcome {o : Host.Outcome State Fault Refusal} {u : State} (h : .next u = forgetOutcome o) :
    ∃ t : State, o = .next t ∧ u = t.forgetRecords := by
  cases o with
  | next t => exact ⟨t, rfl, Host.Outcome.next.inj h⟩
  | fault r => cases h
  | refused r => cases h

/-- Settles O58: the two steps agree up to the records, because each agrees with the step of the state with the records
erased, and that state is the same for both. -/
theorem recordsHaveNoEffect : Obligations.RecordsHaveNoEffect := by
  intro s t s' hst hstep
  have hseen : Host.Outcome.next s'.forgetRecords = forgetOutcome (step t) :=
    calc Host.Outcome.next s'.forgetRecords = forgetOutcome (step s) := by rw [hstep]; rfl
      _ = forgetOutcome (step s.forgetRecords) := step_ignores s
      _ = forgetOutcome (step t.forgetRecords) := by rw [hst]
      _ = forgetOutcome (step t) := (step_ignores t).symm
  exact next_of_forgetOutcome hseen

end Sys2Proof.Proofs

/-! PROOFS. What a step does to the medium, and what it keeps of a sound state (20_memory R93, R101; 10_state R43, R50;
40_common R156, R167). -/

namespace Sys2Proof.Proofs

open Sys2Proof.Machine Sys2Proof.Claims

/-! The medium (20_memory R93). -/

/-- No command byte writes the medium: a command starts, is rejected, or is FORCE INTERRUPT. -/
theorem exec_medium {i : Instr} {s t : State} (h : exec i s = .next t) : t.medium = s.medium := by
  rcases exec_cases i s with ⟨-, f, dir, hI⟩ | ⟨-, f, hII⟩ | ⟨c, -, hIV⟩
  · obtain rfl := Host.Outcome.next.inj (hI.symm.trans h)
    rcases s.writeTypeI_cases (encode i) (commandName i) f dir with ⟨-, ht⟩ | ⟨-, ht⟩ <;> simp [ht]
  · obtain rfl := Host.Outcome.next.inj (hII.symm.trans h)
    rcases s.writeTypeIIorIII_cases (encode i) (commandName i) f with ⟨-, ht⟩ | ⟨-, -, ht⟩ | ⟨-, -, ht⟩ <;> simp [ht]
  · obtain rfl := Host.Outcome.next.inj (hIV.symm.trans h)
    obtain ⟨-, -, -, hmedium⟩ := forceInterrupt_frame c s
    exact hmedium

/-- Step 4 of a tick keeps the frame of the handlers, the condition of I2 too (40_common R165). -/
theorem commandStep_frame (dt : Time) (e : TickEvents) {s : State}
    (hh : s.prog.commandDone = false → s.hasHandler = true) : s.CommandFrame (s.commandStep dt e) := by
  rcases s.commandStep_cases dt e with ⟨-, -, ht⟩ | ⟨-, -, ht⟩ | ⟨-, -, -, ht⟩ | ⟨-, hbusy, n, hn, ht⟩ <;> rw [ht]
  · exact s.fireCondition_frame
  · exact .rfl
  · exact .rfl
  · have hhandles : s.cmd.phase.handles n = true := by simpa [State.hasHandler, hn] using hh hbusy
    exact (s.handler_handled dt e hhandles).1

theorem tick_medium {dt : Time} {s : State} (hh : s.prog.commandDone = false → s.hasHandler = true) :
    (s.tick dt).medium = s.medium := by
  have hframe := commandStep_frame dt (s.tickEvents dt) (s := s.tickHead dt)
    (by rwa [tickHead_prog, tickHead_hasHandler])
  simp only [State.tick, State.statusRefresh_medium, State.hldIdleStep_medium, hframe.medium, tickHead_medium]

theorem setReady_medium (level : Bool) (s : State) : (s.setReady level).medium = s.medium := by
  unfold State.setReady
  rcases State.readyConditions_cases s.pins.ready level { s with pins.ready := level } with ⟨-, ht⟩ | ⟨-, ht⟩ <;> rw [ht]
  · exact (State.fireCondition_frame { s with pins.ready := level }).medium
  · rfl

/-- A step loads the medium of a reset call that is accepted, or leaves the medium alone (20_memory R93). -/
theorem step_medium {s t : State} (h : step s = .next t) :
    (∃ c rest, s.calls = .reset c :: rest ∧ c.mediumWf = true ∧ Config.hltDelayOk c.hltDelay = true
        ∧ t.medium = Medium.ofSetup c)
      ∨ t.medium = s.medium := by
  rcases step_cases h with ⟨-, rfl⟩ | ⟨c, rest, hcalls, hcall⟩
  · exact .inr rfl
  · rcases runCall_cases hcall with ⟨p, rfl, hmedium, hdelay, rfl⟩ | ⟨v, -, hexec⟩ | ⟨p, v, -, -, rfl⟩ | ⟨p, -, rfl⟩
      | ⟨dt, -, -, -, hh, rfl⟩ | ⟨level, -, rfl⟩ | ⟨-, rfl⟩
    · exact .inl ⟨p, rest, hcalls, hmedium, hdelay, rfl⟩
    · exact .inr ((exec_medium hexec).trans rfl)
    · exact .inr (writePort_sameCore p v _).medium
    · exact .inr (readPort_sameCore p _).medium
    · exact .inr (tick_medium hh)
    · exact .inr (setReady_medium level _)
    · exact .inr rfl

/-- Settles O53: of the calls only a reset loads a medium, and a track is computed from the medium. -/
theorem mediumIsConstantBetweenResets : Obligations.MediumIsConstantBetweenResets := by
  intro s t hstep hreset
  rcases step_medium hstep with ⟨c, rest, hcalls, -⟩ | hmedium
  · exact absurd hcalls (hreset c rest)
  · exact ⟨hmedium, fun k sd p => by rw [hmedium]⟩

/-- What soundness says of the medium alone (20_memory R101; logs 5, 9). -/
structure MediumSound (m : Medium) : Prop where
  geometry : m.geom.wf m.density = true
  hltDelay : Config.hltDelayOk m.hltDelay = true
  image : m.image.wf = true
  imageInside : ∀ c ∈ m.image, c.1 < m.geom.imageLen

/-- A medium that reset accepts is loaded in canonical form, with an image of the geometry's length (20_memory R101). -/
theorem ofSetup_mediumSound {c : Setup} (hmedium : c.mediumWf = true) (hdelay : Config.hltDelayOk c.hltDelay = true) :
    MediumSound (Medium.ofSetup c) := by
  simp only [Setup.mediumWf, Bool.and_eq_true, decide_eq_true_eq] at hmedium
  obtain ⟨⟨hgeom, hlength⟩, -⟩ := hmedium
  refine ⟨hgeom, hdelay, Memory.ofBytesFrom_wf c.image 0, fun cell hcell => ?_⟩
  obtain ⟨-, hinside⟩ := Memory.ofBytesFrom_inside c.image 0 cell hcell
  rw [Nat.zero_add, hlength] at hinside
  exact hinside

theorem step_mediumSound {s t : State} (h : step s = .next t) (hs : MediumSound s.medium) : MediumSound t.medium := by
  rcases step_medium h with ⟨c, -, -, hmedium, hdelay, ht⟩ | ht <;> rw [ht]
  · exact ofSetup_mediumSound hmedium hdelay
  · exact hs

/-! The head (10_state R50). -/

/-- The head stays, or moves one cylinder without leaving the medium (41_type1 R207). -/
def MovesOneCylinder (s t : State) : Prop :=
  t.head.currentTrack = s.head.currentTrack
    ∨ (t.head.currentTrack = s.head.currentTrack + 1 ∧ s.head.currentTrack + 1 < s.medium.geom.cyl)
    ∨ t.head.currentTrack + 1 = s.head.currentTrack

/-- Only the head matters. -/
theorem MovesOneCylinder.of_head {s t u : State} (h : MovesOneCylinder s t) (hhead : u.head = t.head) :
    MovesOneCylinder s u := by
  unfold MovesOneCylinder at h ⊢
  rwa [hhead]

theorem physStep_movesOneCylinder (d : Bool) (s : State) : MovesOneCylinder s (s.physStep d) := by
  unfold MovesOneCylinder
  rcases s.physStep_cases d with ⟨-, hinside, ht⟩ | ⟨-, -, ht⟩ | ⟨-, ht⟩ <;> rw [ht]
  · exact .inr (.inl ⟨rfl, hinside⟩)
  · exact .inl rfl
  · dsimp only
    omega

theorem restorePhase_movesOneCylinder (dt : Time) (s : State) : MovesOneCylinder s (s.restorePhase dt) := by
  have hstepping : MovesOneCylinder s (s.restoreStepping dt) := by
    unfold State.restoreStepping
    split
    · exact .inl rfl
    · split
      · exact physStep_movesOneCylinder false { s with timers.step := 0 }
      · exact .inl rfl
  unfold State.restorePhase
  dsimp only
  split
  · exact hstepping.of_head (State.actionDone_head _)
  · exact hstepping

theorem seekPhase_movesOneCylinder (dt : Time) (s : State) : MovesOneCylinder s (s.seekPhase dt) := by
  have hstepping : MovesOneCylinder s (s.seekStepping dt) := by
    unfold State.seekStepping
    split
    · exact .inl rfl
    · split
      · split <;> exact physStep_movesOneCylinder _ { s with timers.step := _, pins.direction := _, regs.tr := _ }
      · exact .inl rfl
  unfold State.seekPhase
  dsimp only
  split
  · exact hstepping.of_head (State.actionDone_head _)
  · exact hstepping

theorem stepOnce_movesOneCylinder (dt : Time) (s : State) : MovesOneCylinder s (s.stepOnce dt) := by
  unfold State.stepOnce
  split
  · dsimp only
    split
    · exact .inl (congrArg Head.currentTrack (State.actionDone_head _))
    · exact (physStep_movesOneCylinder s.pins.direction { s with timers.step := 0 }).of_head (by simp)
  · exact .inl rfl

theorem t1StepPhase_movesOneCylinder (n : CmdName) (dt : Time) (s : State) :
    MovesOneCylinder s (s.t1StepPhase n dt) := by
  cases n
  case restore => exact restorePhase_movesOneCylinder dt s
  case seek => exact seekPhase_movesOneCylinder dt s
  case step | stepIn | stepOut => exact stepOnce_movesOneCylinder dt s
  case readSector | writeSector | readAddress | readTrack | writeTrack | forceInterrupt => exact .inl rfl

theorem nextRecord_currentTrack (s : State) : s.nextRecord.head.currentTrack = s.head.currentTrack := by
  rcases s.nextRecord_cases with ⟨-, -, ht⟩ | ⟨-, ht⟩ <;> rw [ht]
  · exact State.setImageOffset_currentTrack _
  · rfl

theorem hltGate_currentTrack (n : CmdName) (s : State) : (s.hltGate n).head.currentTrack = s.head.currentTrack := by
  unfold State.hltGate
  split
  · cases n <;> simp [State.startDataPhase, State.setImageOffset_currentTrack]
  · rfl

/-- Outside the stepping phase a handler writes of the head at most `start_ptr` and `image_offset`, so none moves it
(41_type1 R207). -/
theorem handler_keeps_currentTrack (n : CmdName) (dt : Time) (e : TickEvents) {s : State} (hp : s.cmd.phase ≠ .t1Step) :
    (s.handler n dt e).head.currentTrack = s.head.currentTrack := by
  unfold State.handler
  cases hphase : s.cmd.phase
  case t1Step => exact absurd hphase hp
  case xWaitHlt => exact hltGate_currentTrack n s
  case rsCrc =>
    simp only [State.readCrcPhase]
    (repeat' split) <;> simp [nextRecord_currentTrack]
  case wsCrc =>
    simp only [State.writeCrcPhase]
    (repeat' split) <;> simp [nextRecord_currentTrack]
  case idle => rfl
  all_goals
    simp only [State.settlePhase, State.verifyGate, State.verifyPhase, State.eDelayPhase, State.searchIdPhase,
      State.idMatched, State.searchDamPhase, State.readDataPhase, State.writeGapPhase, State.writeMarkPhase,
      State.writeDataPhase, State.readAddressSearch, State.readAddressXfer, State.readTrackXfer, State.writeTrackXfer]
    (repeat' split) <;> simp

theorem handler_movesOneCylinder (n : CmdName) (dt : Time) (e : TickEvents) (s : State) :
    MovesOneCylinder s (s.handler n dt e) := by
  by_cases hp : s.cmd.phase = .t1Step
  · unfold State.handler
    rw [hp]
    exact t1StepPhase_movesOneCylinder n dt s
  · exact .inl (handler_keeps_currentTrack n dt e hp)

/-- The cylinder under the head is one of the medium's (10_state R50). -/
def OnMedium (s : State) : Prop := s.head.currentTrack < s.medium.geom.cyl

theorem OnMedium.of_moves {s t : State} (h : OnMedium s) (hmoves : MovesOneCylinder s t)
    (hmedium : t.medium = s.medium) : OnMedium t := by
  unfold OnMedium at h ⊢
  rw [hmedium]
  rcases hmoves with htrack | ⟨htrack, hinside⟩ | htrack <;> omega

theorem onMedium_kept : KeptByCalls OnMedium where
  core hcore h := h.of_moves (.inl (by rw [hcore.head])) hcore.medium
  reset c s hmedium _ := by
    simp only [Setup.mediumWf, Bool.and_eq_true, decide_eq_true_eq] at hmedium
    obtain ⟨-, htrack⟩ := hmedium
    exact htrack
  startTypeI _ _ _ _ _ _ h := h.of_moves (.inl (by simp)) (by simp)
  startTypeIIorIII _ _ _ _ _ _ h := h.of_moves (.inl (by simp)) (by simp)
  abort _ _ _ _ _ _ h := h
  force c s h := by
    obtain ⟨-, hhead, -, hmedium⟩ := forceInterrupt_frame c s
    exact h.of_moves (.inl (by rw [hhead])) hmedium
  fire s h := h.of_moves (.inl (by simp)) s.fireCondition_frame.medium
  tickHead dt s _ _ h := h.of_moves (.inl (by rw [State.tickHead_eq])) (tickHead_medium dt s)
  handler n dt e s _ _ hphase h :=
    h.of_moves (handler_movesOneCylinder n dt e s) (s.handler_handled dt e hphase).1.medium
  hldIdle _ _ _ h := h.of_moves (.inl (by simp)) (by simp)

/-! The command context (10_state R43, 40_common R167). -/

/-- `cmd_type` is the type of `cmd_name`: the two are written together (10_state R43). -/
def OneCommand (s : State) : Prop := s.cmd.cmdType = s.cmd.cmdName.map CmdName.type

theorem OneCommand.congr {s t : State} (h : OneCommand s) (htype : t.cmd.cmdType = s.cmd.cmdType)
    (hname : t.cmd.cmdName = s.cmd.cmdName) : OneCommand t := by
  unfold OneCommand at h ⊢
  rw [htype, hname, h]

/-- A command that is taken writes both (40_common R158). -/
theorem OneCommand.of_taken {t : State} {n : CmdName} (htype : t.cmd.cmdType = some n.type)
    (hname : t.cmd.cmdName = some n) : OneCommand t := by
  unfold OneCommand
  rw [htype, hname]
  rfl

theorem oneCommand_kept : KeptByCalls OneCommand where
  core hcore h := h.congr (by rw [hcore.cmd]) (by rw [hcore.cmd])
  reset _ _ _ _ := rfl
  startTypeI _ n _ _ _ _ _ := .of_taken (n := n) (by simp [type1Setup_cmd]) (by simp [type1Setup_cmd])
  startTypeIIorIII _ n _ _ _ _ _ := .of_taken (n := n) (by simp [type23Setup_cmd]) (by simp [type23Setup_cmd])
  abort _ n _ _ _ _ _ := .of_taken (n := n) rfl rfl
  force c s h := by
    rcases forceInterrupt_cases c s with ⟨-, hcmd, -⟩ | ⟨-, hcmd, -⟩ | ⟨-, hcmd, -⟩
    · exact .of_taken (n := .forceInterrupt) (by rw [hcmd]; rfl) (by rw [hcmd])
    · exact h.congr (by rw [hcmd]) (by rw [hcmd])
    · exact h.congr (by rw [hcmd]) (by rw [hcmd])
  fire s h := h.congr s.fireCondition_frame.cmdType s.fireCondition_frame.cmdName
  tickHead dt s _ _ h := h.congr (by rw [tickHead_cmd]) (by rw [tickHead_cmd])
  handler n dt e s _ _ hphase h :=
    have hframe := (s.handler_handled dt e hphase).1
    h.congr hframe.cmdType hframe.cmdName
  hldIdle _ _ _ h := h.congr (by simp) (by simp)

/-- The phase of a command in flight has a handler for that command (40_common R167). -/
def CommandHandled (s : State) : Prop := s.prog.commandDone = false → s.hasHandler = true

theorem CommandHandled.of_done {s : State} (h : s.prog.commandDone = true) : CommandHandled s :=
  fun hbusy => absurd (h.symm.trans hbusy) nofun

theorem CommandHandled.of_handles {s : State} {n : CmdName} (hname : s.cmd.cmdName = some n)
    (hphase : s.cmd.phase.handles n = true) : CommandHandled s := by
  intro _
  simpa only [State.hasHandler, hname] using hphase

theorem CommandHandled.congr {s t : State} (h : CommandHandled s) (hname : t.cmd.cmdName = s.cmd.cmdName)
    (hphase : t.cmd.phase = s.cmd.phase) (hdone : t.prog.commandDone = s.prog.commandDone) : CommandHandled t := by
  unfold CommandHandled State.hasHandler at h ⊢
  rwa [hname, hphase, hdone]

theorem CommandHandled.of_sameCore {s t : State} (h : CommandHandled s) (hcore : SameCore s t) : CommandHandled t :=
  h.congr (by rw [hcore.cmd]) (by rw [hcore.cmd]) (by rw [hcore.prog])

/-- A command starts in a phase that handles it: Type I in T1_STEP, Types II and III at the E-delay or the HLT gate. -/
theorem exec_commandHandled {i : Instr} {s t : State} (h : exec i s = .next t) (hs : CommandHandled s) :
    CommandHandled t := by
  rcases exec_cases i s with ⟨htype, f, dir, hI⟩ | ⟨htype, f, hII⟩ | ⟨c, -, hIV⟩
  · obtain rfl := Host.Outcome.next.inj (hI.symm.trans h)
    rcases s.writeTypeI_cases (encode i) (commandName i) f dir with ⟨-, ht⟩ | ⟨-, ht⟩ <;> rw [ht]
    · exact hs
    · exact .of_handles (n := commandName i) (by simp [type1Setup_cmd]) (by simp [type1Setup_cmd, Phase.handles, htype])
  · obtain rfl := Host.Outcome.next.inj (hII.symm.trans h)
    rcases s.writeTypeIIorIII_cases (encode i) (commandName i) f with ⟨-, ht⟩ | ⟨hdone, -, ht⟩ | ⟨-, -, ht⟩ <;> rw [ht]
    · exact hs
    · exact .of_done hdone
    · refine .of_handles (n := commandName i) (by simp [type23Setup_cmd]) ?_
      simp only [State.statusRefresh_cmd, type23Setup_cmd]
      split <;> simpa [Phase.handles] using htype
  · obtain rfl := Host.Outcome.next.inj (hIV.symm.trans h)
    rcases forceInterrupt_cases c s with ⟨hdone, -, hprog⟩ | ⟨-, -, hprog⟩ | ⟨-, hcmd, hprog⟩
    · exact .of_done (by rw [State.statusRefresh_prog, hprog]; exact hdone)
    · exact .of_done (by rw [State.statusRefresh_prog, hprog])
    · exact hs.congr (by rw [State.statusRefresh_cmd, hcmd]) (by rw [State.statusRefresh_cmd, hcmd])
        (by rw [State.statusRefresh_prog, hprog])

theorem fireCondition_commandHandled {s : State} (hs : CommandHandled s) : CommandHandled s.fireCondition := by
  rcases s.fireCondition_cases with ⟨-, ht⟩ | ⟨-, ht⟩ <;> rw [ht]
  · exact hs
  · exact .of_done rfl

/-- The handler that runs is the one of the command in flight, so its next phase is one of that command's
(40_common R167). -/
theorem commandStep_commandHandled (dt : Time) (e : TickEvents) {s : State} (hs : CommandHandled s) :
    CommandHandled (s.commandStep dt e) := by
  rcases s.commandStep_cases dt e with ⟨-, -, ht⟩ | ⟨-, -, ht⟩ | ⟨-, -, -, ht⟩ | ⟨-, hbusy, n, hn, ht⟩ <;> rw [ht]
  · exact fireCondition_commandHandled hs
  · exact hs
  · exact hs
  · have hhandles : s.cmd.phase.handles n = true := by simpa [State.hasHandler, hn] using hs hbusy
    obtain ⟨hframe, hprogress⟩ := s.handler_handled dt e hhandles
    rcases hprogress with ⟨-, hnext, -⟩ | ⟨hdone, -, -⟩
    · exact .of_handles (hframe.cmdName.trans hn) hnext
    · exact .of_done hdone

theorem tick_commandHandled (dt : Time) {s : State} (hs : CommandHandled s) : CommandHandled (s.tick dt) := by
  have hhead : CommandHandled (s.tickHead dt) :=
    hs.congr (by rw [tickHead_cmd]) (by rw [tickHead_cmd]) (by rw [tickHead_prog])
  exact (commandStep_commandHandled dt (s.tickEvents dt) hhead).congr (by simp [State.tick]) (by simp [State.tick])
    (by simp [State.tick])

theorem setReady_commandHandled (level : Bool) {s : State} (hs : CommandHandled s) :
    CommandHandled (s.setReady level) := by
  have hlevel : CommandHandled { s with pins.ready := level } := hs
  refine CommandHandled.of_sameCore ?_ (statusRefresh_sameCore _)
  rcases State.readyConditions_cases s.pins.ready level { s with pins.ready := level } with ⟨-, ht⟩ | ⟨-, ht⟩ <;> rw [ht]
  · exact fireCondition_commandHandled hlevel
  · exact hlevel

/-- `handled` is no predicate the invariant rule `KeptByCalls` can take: that rule runs the handler of any command the
phase admits, and the next phase need not be one of the command in flight. -/
theorem step_commandHandled {s t : State} (h : step s = .next t) (hs : CommandHandled s) : CommandHandled t := by
  rcases step_cases h with ⟨-, rfl⟩ | ⟨c, rest, -, hcall⟩
  · exact hs
  · have hu : CommandHandled (s.takeCall rest) := hs
    rcases runCall_cases hcall with ⟨p, -, -, -, rfl⟩ | ⟨v, -, hexec⟩ | ⟨p, v, -, -, rfl⟩ | ⟨p, -, rfl⟩
      | ⟨dt, -, -, -, -, rfl⟩ | ⟨level, -, rfl⟩ | ⟨-, rfl⟩
    · exact .of_done rfl
    · exact exec_commandHandled hexec hu
    · exact hu.of_sameCore (writePort_sameCore p v _)
    · exact hu.of_sameCore (readPort_sameCore p _)
    · exact tick_commandHandled dt hu
    · exact setReady_commandHandled level hu
    · exact hu

/-! The status register (40_common R156). -/

/-- `STR` agrees with the pins and the latched bits after a step where it did before (40_common R156). -/
theorem step_str {s t : State} (h : step s = .next t) (hs : s.regs.str = s.status) : t.regs.str = t.status := by
  rcases step_cases h with ⟨-, rfl⟩ | ⟨c, rest, -, hcall⟩
  · exact hs
  · rcases runCall_refreshes hcall with ⟨u, rfl⟩ | rfl
    · rfl
    · exact hs

/-- Settles O48: each part of soundness is kept by a step, whatever the call. -/
theorem stepKeepsStatesSound : Obligations.StepKeepsStatesSound := by
  intro s t hs hstep
  have hmedium : MediumSound t.medium :=
    step_mediumSound hstep ⟨hs.geometry, hs.hltDelay, hs.image, hs.imageInside⟩
  exact
    { geometry := hmedium.geometry
      hltDelay := hmedium.hltDelay
      image := hmedium.image
      imageInside := hmedium.imageInside
      onMedium := onMedium_kept.step hstep hs.onMedium
      status := step_str hstep hs.status
      oneCommand := oneCommand_kept.step hstep hs.oneCommand
      handled := step_commandHandled hstep hs.handled }

end Sys2Proof.Proofs

/-! PROOFS. The port space and the reset call as steps of the machine (20_memory R71 to R81, R101; 40_common R150,
R151). -/

namespace Sys2Proof.Proofs

open Sys2Proof.Machine Sys2Proof.Claims

/-! The call a step makes. -/

section Calls

variable {s : State} {rest : List Call}

/-- The first pending call is the one the step makes (40_common R150; log 1). -/
theorem step_of_call {c : Call} (h : s.calls = c :: rest) : step s = runCall c (s.takeCall rest) := by
  simp only [step, nextCall, h]

theorem step_of_commandWrite {v : Byte} (h : s.calls = .write 0 v :: rest) :
    step s = exec (decode v) (s.takeCall rest) := step_of_call h

theorem step_of_read {port : Nat} (h : s.calls = .read port :: rest) :
    step s = .next ((s.takeCall rest).readPort port) := step_of_call h

theorem step_of_write {port : Nat} {v : Byte} (hport : port ≠ 0) (h : s.calls = .write port v :: rest) :
    step s = .next ((s.takeCall rest).writePort port v) := by
  rw [step_of_call h, runCall, if_neg hport]

theorem step_of_reset {c : Setup} (h : s.calls = .reset c :: rest) : step s = (s.takeCall rest).resetCall c :=
  step_of_call h

end Calls

/-- Settles O7: port +0 is the command port. -/
theorem commandWriteRunsDecodedCommand : Obligations.CommandWriteRunsDecodedCommand :=
  fun _ _ _ hcall => step_of_commandWrite hcall

/-! The ports, said once. -/

/-- No bit of the status shows INTRQ, so a read of port +0 leaves the `STR` it returned (20_memory R72). -/
theorem readPort_status (s : State) :
    s.readPort 0 = { s with regs.str := s.status, pins.intrq := false, reply := .byte s.status } := rfl

/-- A port with no side effect on a read: all but +0, +3 and +5 (20_memory R74, R75, R79, R81). -/
theorem portRead_plain {port : Nat} (h : port = 1 ∨ port = 2 ∨ port = 4 ∨ 5 < port) (s : State) :
    s.portRead port = s := by
  unfold State.portRead
  split
  · omega
  · omega
  · omega
  · rfl

/-- A port with nothing to read: +4, write-only, and the invalid offsets (20_memory R79, R81). -/
theorem portByte_zero {port : Nat} (h : port = 4 ∨ 5 < port) (s : State) : s.portByte port = 0x00 := by
  unfold State.portByte
  split
  case h_6 => rfl
  all_goals omega

/-- A port that ignores writes: +5 and the invalid offsets (20_memory R80, R81). -/
theorem portWrite_ignored {port : Nat} (h : 5 ≤ port) (v : Byte) (s : State) : s.portWrite port v = s := by
  unfold State.portWrite
  split
  case h_5 => rfl
  all_goals omega

theorem readPort_plain {port : Nat} (h : port = 1 ∨ port = 2 ∨ port = 4 ∨ 5 < port) (s : State) :
    s.readPort port = State.statusRefresh { s with reply := .byte (s.portByte port) } := by
  rw [State.readPort, portRead_plain h]

/-- Settles O14: the step is the read of port +0. -/
theorem statusReadClearsIntrq : Obligations.StatusReadClearsIntrq := by
  intro s rest hcall
  rw [step_of_read hcall, readPort_status]
  rfl

/-- Settles O15: a step is the read or the write of its port, and each port has one rule. -/
theorem plainPortsReadAndWrite : Obligations.PlainPortsReadAndWrite := by
  intro s rest v
  refine ⟨fun h => ?readTr, fun h => ?writeTr, fun h => ?readSr, fun h => ?writeSr, fun h => ?writeLatch,
    fun p hp h => ?readNothing, fun h => ?readAux, fun p hp h => ?writeIgnored⟩
  case readTr =>
    rw [step_of_read h, readPort_plain (by omega)]
    rfl
  case readSr =>
    rw [step_of_read h, readPort_plain (by omega)]
    rfl
  case readNothing =>
    rw [step_of_read h, readPort_plain (by omega), portByte_zero hp]
    rfl
  case readAux =>
    rw [step_of_read h]
    rfl
  case writeTr | writeSr | writeLatch =>
    rw [step_of_write (by decide) h]
    rfl
  case writeIgnored =>
    rw [step_of_write (by omega) h, State.writePort, portWrite_ignored hp]
    rfl

/-! The data port (20_memory R76, R77). -/

theorem setDrq_self {s : State} {b : Bool} (h : s.pins.drq = b) : ({ s with pins.drq := b } : State) = s := by
  subst h
  rfl

/-- The commands whose DRQ a read of `DR` clears (00_scope R13, 20_memory R76). -/
theorem lastCommand_readType (s : State) :
    s.lastCommand CmdName.readType =
      decide (s.cmd.cmdName = some .readSector ∨ s.cmd.cmdName = some .readAddress
        ∨ s.cmd.cmdName = some .readTrack) := by
  unfold State.lastCommand
  cases s.cmd.cmdName with
  | none => rfl
  | some n => cases n <;> rfl

/-- The commands whose DRQ a write of `DR` clears (00_scope R13, 20_memory R77). -/
theorem lastCommand_writeType (s : State) :
    s.lastCommand CmdName.writeType =
      decide (s.cmd.cmdName = some .writeSector ∨ s.cmd.cmdName = some .writeTrack) := by
  unfold State.lastCommand
  cases s.cmd.cmdName with
  | none => rfl
  | some n => cases n <;> rfl

/-- What serving the data port leaves of DRQ after a command of the given sort. -/
theorem serve_drq (served : Bool) (s : State) :
    (if s.pins.drq = true ∧ served = true then { s with pins.drq := false } else s)
      = { s with pins.drq := s.pins.drq && !served } := by
  cases hdrq : s.pins.drq
  · simpa using (setDrq_self hdrq).symm
  · cases served
    · simpa using (setDrq_self hdrq).symm
    · rfl

theorem portRead_data (s : State) :
    s.portRead 3 = { s with pins.drq := s.pins.drq && !s.lastCommand CmdName.readType } :=
  serve_drq (s.lastCommand CmdName.readType) s

theorem portWrite_data (v : Byte) (s : State) :
    s.portWrite 3 v = { s with regs.dr := v, pins.drq := s.pins.drq && !s.lastCommand CmdName.writeType } :=
  serve_drq (s.lastCommand CmdName.writeType) { s with regs.dr := v }

/-- Settles O16: the transfer clears DRQ after a command of its own direction. -/
theorem dataPortServesDrq : Obligations.DataPortServesDrq := by
  intro s rest v
  constructor
  · intro hcall
    rw [step_of_read hcall, State.readPort, portRead_data, lastCommand_readType]
    rfl
  · intro hcall
    rw [step_of_write (by decide) hcall, State.writePort, portWrite_data, lastCommand_writeType]
    rfl

/-! The reset call (20_memory R101). -/

/-- Bad media are reported first, before the HLT delay is looked at (log 9). -/
theorem resetCall_badMedium_iff (c : Setup) (s : State) :
    s.resetCall c = .refused .badMedium ↔ c.mediumWf = false := by
  unfold State.resetCall
  split
  · simp_all
  · split <;> simp_all

/-- `used` of R86 is past the track's end, in the literals of 20_memory R84 to R86 and 00_scope R8. -/
theorem used_gt_trackLen_iff (d : Density) (g : Geometry) :
    Config.trackLen d < g.used d ↔
      match d with
      | .mfm => 7500 < 146 + g.spt * (62 + g.slen + 84)
      | .fm => 3750 < 73 + g.spt * (33 + g.slen + 27) := by
  cases d <;> rfl

theorem mediumWf_eq_false_iff (c : Setup) :
    c.mediumWf = false ↔
      (c.geom.cyl < 1 ∨ 256 < c.geom.cyl) ∨ (c.geom.sides ≠ 1 ∧ c.geom.sides ≠ 2)
        ∨ (c.geom.spt < 1 ∨ 255 < c.geom.spt)
        ∨ (c.geom.slen ≠ 128 ∧ c.geom.slen ≠ 256 ∧ c.geom.slen ≠ 512 ∧ c.geom.slen ≠ 1024)
        ∨ c.image.length ≠ c.geom.imageLen
        ∨ Config.trackLen c.density < c.geom.used c.density
        ∨ c.geom.cyl ≤ c.initialTrack := by
  simp only [Setup.mediumWf, Geometry.wf, Bool.and_eq_false_iff, decide_eq_false_iff_not, not_and_or, not_or, not_le,
    not_lt]
  tauto

/-- Settles O20: reset looks at the bounds of R101 and at nothing else before it refuses a medium. -/
theorem resetRefusesIllFormedMedia : Obligations.ResetRefusesIllFormedMedia := by
  intro s c rest hcall
  rw [step_of_reset hcall, resetCall_badMedium_iff, mediumWf_eq_false_iff, used_gt_trackLen_iff]
  rfl

end Sys2Proof.Proofs

/-! PROOFS. The CRC, the fields it guards, and the loaded image (20_memory R70, R83, R88, R90 to R92). -/

namespace Sys2Proof.Proofs

open Sys2Proof.Machine Sys2Proof.Claims

/-! The CRC (20_memory R90 to R92). -/

theorem crcShifts_eq_iterate (n : Nat) (c : Crc) : crcShifts n c = crcShift^[n] c := by
  induction n generalizing c with
  | zero => rfl
  | succ n ih => exact ih (crcShift c)

/-- A byte goes in as eight bits, the most significant first. -/
theorem crcStep_eq_foldl (c : Crc) (b : Byte) :
    crcStep c b = (List.range 8).foldl (fun c _ => crcShift c) (c ^^^ (b.zeroExtend 16 <<< 8)) := by
  rw [crcStep, crcShifts_eq_iterate, List.foldl_const, List.length_range]

/-- `crc16` takes the bytes in order. -/
theorem crc16_append (bs cs : List Byte) : crc16 (bs ++ cs) = crcFold (crc16 bs) cs := List.foldl_append

theorem crcOfBytes_toNat (hi lo : Byte) : (crcOfBytes hi lo).toNat = hi.toNat * 256 + lo.toNat := by
  rw [crcOfBytes, BitVec.toNat_append, ← Nat.shiftLeft_add_eq_or_of_lt lo.isLt, Nat.shiftLeft_eq]

/-- The two stored bytes of a CRC are the CRC (20_memory R92). -/
theorem crcOfBytes_bytes (c : Crc) : crcOfBytes (crcHiByte c) (crcLoByte c) = c := by
  apply BitVec.eq_of_toNat_eq
  simp only [crcOfBytes_toNat, crcHiByte, crcLoByte, BitVec.extractLsb'_toNat]
  omega

/-- The check value of R90. -/
theorem crc16_check : crc16 [0x31, 0x32, 0x33, 0x34, 0x35, 0x36, 0x37, 0x38, 0x39] = 0x29B1 := by
  decide +kernel

/-- Settles O60: eight shifts for a byte, byte after byte, and one computed check value. -/
theorem crcFollowsItsBitwiseDefinition : Obligations.CrcFollowsItsBitwiseDefinition :=
  ⟨crcStep_eq_foldl, rfl, fun bs b => crc16_append bs [b], crc16_check, crcOfBytes_toNat⟩

/-! A field and its CRC (20_memory R91, R92). -/

theorem markPrefix_eq_crcPrefix (d : Density) (mark : Byte) : markPrefix d mark = crcPrefix d mark := by
  cases d <;> rfl

/-- Feeding data bytes runs the accumulator over them. -/
theorem fedCrc_crc (s : State) (bs : List Byte) : (fedCrc s bs).regs.crc = crcFold s.regs.crc bs := by
  induction bs generalizing s with
  | nil => rfl
  | cons b bs ih => exact ih (s.crcByte b)

/-- The CRC of a field is stored behind its body, high byte first. -/
theorem fieldBytes_crcHi (d : Density) (mark : Byte) (body : List Byte) :
    (fieldBytes d mark body).getD body.length 0 = crcHiByte (crc16 (markPrefix d mark ++ body)) := by
  simp [fieldBytes]

theorem fieldBytes_crcLo (d : Density) (mark : Byte) (body : List Byte) :
    (fieldBytes d mark body).getD (body.length + 1) 0 = crcLoByte (crc16 (markPrefix d mark ++ body)) := by
  simp [fieldBytes]

/-- Settles O45: the accumulator runs over the bytes the stored CRC covers. -/
theorem ownDataFieldsCheck : Obligations.OwnDataFieldsCheck := by
  intro s mark data hcrc
  dsimp only
  rw [fieldBytes_crcHi, fieldBytes_crcLo, crcOfBytes_bytes, fedCrc_crc, hcrc, crc16_append, markPrefix_eq_crcPrefix]

/-! The loaded image (20_memory R70, R83, R88). -/

/-- Offset `lo + i` of an image loaded from offset `lo` on reads byte `i`; past the end it reads the unlisted byte
(log 5). -/
theorem ofBytesFrom_read (bs : List Byte) (lo i : Nat) : (Memory.ofBytesFrom lo bs).read (lo + i) = bs.getD i 0x00 := by
  induction bs generalizing lo i with
  | nil => rfl
  | cons b bs ih =>
    have htail := Memory.ofBytesFrom_wf bs (lo + 1)
    unfold Memory.ofBytesFrom
    cases i with
    | zero =>
      split
      · rename_i hb
        exact (Memory.read_below htail (Nat.lt_succ_self lo)).trans hb.symm
      · simp [Memory.read]
    | succ i =>
      have hnext : (Memory.ofBytesFrom (lo + 1) bs).read (lo + (i + 1)) = bs.getD i 0x00 := by
        rw [← ih (lo + 1) i, Nat.add_right_comm, Nat.add_assoc]
      split
      · exact hnext
      · rw [Memory.read, if_neg (by omega)]
        exact hnext

/-- Settles O42: the image of a byte string is the one loaded from offset 0 on. -/
theorem loadedImageReadsBack : Obligations.LoadedImageReadsBack := by
  intro bs
  refine ⟨Memory.ofBytesFrom_wf bs 0, fun o => ?_, fun c hc => ?_⟩
  · rw [Memory.ofBytes, ← ofBytesFrom_read bs 0 o, Nat.zero_add]
  · obtain ⟨-, hinside⟩ := Memory.ofBytesFrom_inside bs 0 c hc
    rwa [Nat.zero_add] at hinside

end Sys2Proof.Proofs

/-! PROOFS. The formatted track, segment by segment (20_memory R82 to R89): a list of bytes stands on the track at an
offset, and a list cut in two stands there if and only if its parts stand one behind the other. -/

namespace Sys2Proof.Proofs

open Sys2Proof.Machine Sys2Proof.Claims

/-! Bytes standing at an offset. -/

section Standing

variable {track : Nat → Byte} {p : Nat}

/-- The bytes `bs` stand on the track from offset `p` on. -/
def StandsAt (track : Nat → Byte) (p : Nat) (bs : List Byte) : Prop :=
  ∀ i, i < bs.length → track (p + i) = bs.getD i 0

theorem StandsAt.of_eq {bs : List Byte} {q : Nat} (h : StandsAt track p bs) (hpos : p = q) : StandsAt track q bs := hpos ▸ h

theorem standsAt_shift {bs : List Byte} : StandsAt track p bs ↔ StandsAt (fun k => track (p + k)) 0 bs := by
  simp only [StandsAt, Nat.zero_add]

theorem standsAt_zero {bs : List Byte} : StandsAt track 0 bs ↔ ∀ i, i < bs.length → track i = bs.getD i 0 := by
  simp only [StandsAt, Nat.zero_add]

theorem standsAt_append {bs cs : List Byte} :
    StandsAt track p (bs ++ cs) ↔ StandsAt track p bs ∧ StandsAt track (p + bs.length) cs := by
  constructor
  · intro h
    refine ⟨fun i hi => ?_, fun i hi => ?_⟩
    · rw [h i (by rw [List.length_append]; omega), List.getD_append _ _ _ _ hi]
    · rw [Nat.add_assoc, h (bs.length + i) (by rw [List.length_append]; omega),
        List.getD_append_right _ _ _ _ (Nat.le_add_right _ _), Nat.add_sub_cancel_left]
  · rintro ⟨hbs, hcs⟩ i hi
    by_cases hfirst : i < bs.length
    · rw [List.getD_append _ _ _ _ hfirst, hbs i hfirst]
    · rw [List.length_append] at hi
      have hrest := hcs (i - bs.length) (by omega)
      rwa [Nat.add_assoc, Nat.add_sub_cancel' (not_lt.mp hfirst), ← List.getD_append_right _ _ _ _ (not_lt.mp hfirst)]
        at hrest

theorem standsAt_cons {b : Byte} {bs : List Byte} :
    StandsAt track p (b :: bs) ↔ track p = b ∧ StandsAt track (p + 1) bs := by
  rw [← List.singleton_append, standsAt_append]
  simp [StandsAt]

theorem standsAt_replicate {n : Nat} {b : Byte} :
    StandsAt track p (List.replicate n b) ↔ ∀ i, i < n → track (p + i) = b := by
  simp +contextual [StandsAt, List.getD_eq_getElem?_getD]

/-- In a row of segments of one length, segment `i` stands behind `i` segments. -/
theorem standsAt_of_flatMap_range {segment : Nat → List Byte} {len n i : Nat} (hlen : ∀ i, (segment i).length = len)
    (h : StandsAt track p ((List.range n).flatMap segment)) (hi : i < n) : StandsAt track (p + i * len) (segment i) := by
  induction n with
  | zero => exact absurd hi (Nat.not_lt_zero i)
  | succ n ih =>
    rw [List.range_succ, List.flatMap_append, standsAt_append] at h
    obtain ⟨hbefore, hlast⟩ := h
    rcases Nat.lt_succ_iff_lt_or_eq.mp hi with hi | rfl
    · exact ih hbefore hi
    · simpa [List.length_flatMap, hlen] using hlast

end Standing

/-! The lengths of the parts (20_memory R84 to R86). -/

theorem preamble_length (d : Density) : (preamble d).length = Config.preambleLen d := by cases d <;> rfl

theorem fieldBytes_length (d : Density) (mark : Byte) (body : List Byte) :
    (fieldBytes d mark body).length = body.length + 2 := by simp [fieldBytes]

theorem sectorData_length (m : Medium) (t s r : Nat) : (sectorData m t s r).length = m.geom.slen := by
  simp [sectorData]

theorem sectorRecord_length (m : Medium) (t s r : Nat) :
    (sectorRecord m t s r).length = Config.recordLen m.density m.geom.slen := by
  simp only [sectorRecord, List.length_append, fieldBytes_length, sectorData_length, List.length_replicate]
  cases m.density <;> simp [syncBytes, idBody, gap2, Config.recordLen, Config.gap3] <;> omega

theorem records_length (m : Medium) (t s : Nat) :
    ((List.range m.geom.spt).flatMap fun i => sectorRecord m t s (i + 1)).length =
      m.geom.spt * Config.recordLen m.density m.geom.slen := by
  simp [List.length_flatMap, sectorRecord_length]

/-- The layout fits the track (20_memory R86, R101). -/
theorem used_le_trackLen {d : Density} {g : Geometry} (h : g.wf d = true) : g.used d ≤ Config.trackLen d := by
  simp only [Geometry.wf, Bool.and_eq_true, decide_eq_true_eq] at h
  obtain ⟨-, hfit⟩ := h
  exact hfit

/-- Gap 4b fills the track up to one revolution (20_memory R86). -/
theorem trackBytes_length {m : Medium} (t s : Nat) (h : m.geom.wf m.density = true) :
    (trackBytes m t s).length = Config.trackLen m.density := by
  have hfit := used_le_trackLen h
  simp only [trackBytes, List.length_append, preamble_length, records_length, List.length_replicate]
  unfold Geometry.used at hfit ⊢
  omega

/-! The three parts of a track. -/

section Track

variable {m : Medium} {t s : Nat}

/-- A side the medium lacks reads 0x00 (20_memory R82, decision D35). -/
theorem mediumByte_absentSide (h : m.geom.sides ≤ s) (p : Nat) : mediumByte m t s p = 0x00 :=
  if_neg (not_lt.mpr h)

theorem trackBytes_stand (hs : s < m.geom.sides) : StandsAt (mediumByte m t s) 0 (trackBytes m t s) := by
  rw [standsAt_zero]
  intro p _
  rw [mediumByte, if_pos hs]

/-- Preamble, records and gap 4b, one behind the other (20_memory R84 to R86). -/
theorem trackParts_stand (hs : s < m.geom.sides) :
    StandsAt (mediumByte m t s) 0 (preamble m.density)
      ∧ StandsAt (mediumByte m t s) (Config.preambleLen m.density)
          ((List.range m.geom.spt).flatMap fun i => sectorRecord m t s (i + 1))
      ∧ StandsAt (mediumByte m t s) (m.geom.used m.density)
          (List.replicate (Config.trackLen m.density - m.geom.used m.density) (gapByte m.density)) := by
  have h := trackBytes_stand (t := t) hs
  rw [trackBytes, standsAt_append, standsAt_append, List.length_append, preamble_length, records_length, Nat.zero_add,
    Nat.zero_add] at h
  obtain ⟨⟨hpreamble, hrecords⟩, hgap⟩ := h
  exact ⟨hpreamble, hrecords, hgap⟩

theorem preamble_byte (hs : s < m.geom.sides) {p : Nat} (hp : p < Config.preambleLen m.density) :
    mediumByte m t s p = (preamble m.density).getD p 0 := by
  obtain ⟨hpreamble, -, -⟩ := trackParts_stand (t := t) hs
  exact standsAt_zero.mp hpreamble p (by rwa [preamble_length])

theorem gap4b_byte (hs : s < m.geom.sides) {p : Nat} (hlo : m.geom.used m.density ≤ p)
    (hhi : p < Config.trackLen m.density) : mediumByte m t s p = gapByte m.density := by
  obtain ⟨-, -, hgap⟩ := trackParts_stand (t := t) hs
  have hbyte := standsAt_replicate.mp hgap (p - m.geom.used m.density) (by omega)
  rwa [Nat.add_sub_cancel' hlo] at hbyte

end Track

/-- Settles O40: a well-formed geometry leaves gap 4b the rest of the revolution. The statement writes the preamble as a
list of numbers cast to bytes. -/
theorem formattedTrackFillsOneRevolution : Obligations.FormattedTrackFillsOneRevolution := by
  intro m t s hwf
  refine ⟨?length, fun hs => mediumByte_absentSide hs, fun hs hd => ?mfm, fun hs hd => ?fm⟩
  case length => rw [trackBytes_length t s hwf, trackLen_eq_revolutionBytes]
  case mfm | fm =>
    have hpreamble := fun p => preamble_byte (t := t) (p := p) hs
    have hgap := fun p => gap4b_byte (t := t) (p := p) hs
    rw [hd] at hpreamble hgap
    refine ⟨fun p hp => ?_, hgap⟩
    rw [hpreamble p hp, ← List.getD_map (f := Nat.cast)]
    rfl

/-! A sector record (20_memory R84, R85, R87 to R89). -/

/-- Records are of one length, so record `r` stands behind the preamble and `r - 1` records. -/
theorem sectorRecord_stands {m : Medium} {t s r : Nat} (hs : s < m.geom.sides) (hr : 1 ≤ r) (hspt : r ≤ m.geom.spt) :
    StandsAt (mediumByte m t s)
      (Config.preambleLen m.density + (r - 1) * Config.recordLen m.density m.geom.slen) (sectorRecord m t s r) := by
  obtain ⟨-, hrecords, -⟩ := trackParts_stand (t := t) hs
  have hrecord := standsAt_of_flatMap_range (i := r - 1) (fun i => sectorRecord_length m t s (i + 1)) hrecords (by omega)
  rwa [Nat.sub_add_cancel hr] at hrecord

/-- A field on the track: its body, then its CRC, high byte first (20_memory R91, R92). -/
theorem standsAt_fieldBytes {track : Nat → Byte} {p : Nat} {d : Density} {mark : Byte} {body : List Byte}
    (h : StandsAt track p (fieldBytes d mark body)) :
    StandsAt track p body ∧ track (p + body.length) = crcHiByte (crc16 (markPrefix d mark ++ body))
      ∧ track (p + body.length + 1) = crcLoByte (crc16 (markPrefix d mark ++ body)) := by
  simp only [fieldBytes, standsAt_append, standsAt_cons] at h
  obtain ⟨hbody, hhi, hlo, -⟩ := h
  exact ⟨hbody, hhi, hlo⟩

/-- The length code N with `G_SLEN = 128 × 2^N` (20_memory R87). -/
theorem lengthCode_spec {d : Density} {g : Geometry} (h : g.wf d = true) :
    ∃ n, lengthCode g.slen = BitVec.ofNat 8 n ∧ n < 4 ∧ g.slen = 128 * 2 ^ n := by
  simp only [Geometry.wf, Bool.and_eq_true, decide_eq_true_eq] at h
  obtain ⟨⟨-, hslen⟩, -⟩ := h
  rcases hslen with hslen | hslen | hslen | hslen <;> rw [hslen]
  · exact ⟨0, by decide⟩
  · exact ⟨1, by decide⟩
  · exact ⟨2, by decide⟩
  · exact ⟨3, by decide⟩

/-- Data byte `i` of a sector is image byte `ImageOffset + i` (20_memory R88, R89). -/
theorem sectorData_getD (m : Medium) (t s r : Nat) {i : Nat} (hi : i < m.geom.slen) :
    (sectorData m t s r).getD i 0 = m.image.read (imageOffset m.geom t s r + i) := by
  simp [sectorData, hi]

/-- The parts of a record at their offsets: `sync` the bytes before a mark (20_memory R84, R85). -/
theorem sectorRecord_parts {m : Medium} {t s r : Nat} {byte : Nat → Byte} {sync : List Byte}
    (hsync : ∀ mark, syncBytes m.density mark = sync ++ [mark]) (h : StandsAt byte 0 (sectorRecord m t s r)) :
    let id := sync.length
    let data := id + 7 + gap2 m.density + sync.length
    (StandsAt byte 0 sync ∧ byte id = 0xFE)
      ∧ StandsAt byte (id + 1) (fieldBytes m.density 0xFE (idBody m.geom t s r))
      ∧ StandsAt byte (id + 7) (List.replicate (gap2 m.density) (gapByte m.density))
      ∧ (StandsAt byte (id + 7 + gap2 m.density) sync ∧ byte data = 0xFB)
      ∧ StandsAt byte (data + 1) (fieldBytes m.density 0xFB (sectorData m t s r))
      ∧ StandsAt byte (data + 3 + m.geom.slen) (List.replicate (Config.gap3 m.density) (gapByte m.density)) := by
  intro id data
  have hidBody : (idBody m.geom t s r).length = 4 := rfl
  simp only [sectorRecord, hsync, standsAt_append, standsAt_cons, List.length_append, List.length_replicate,
    List.length_singleton, fieldBytes_length, sectorData_length, hidBody, Nat.zero_add] at h
  obtain ⟨⟨⟨⟨⟨⟨hsync1, hidMark, -⟩, hidField⟩, hgap2⟩, hsync2, hdataMark, -⟩, hdataField⟩, hgap3⟩ := h
  have hdata : id + 1 + (4 + 2) + gap2 m.density + sync.length = data := by omega
  exact ⟨⟨hsync1, hidMark⟩, hidField, hgap2.of_eq (by omega), ⟨hsync2.of_eq (by omega), hdata ▸ hdataMark⟩,
    hdataField.of_eq (by omega), hgap3.of_eq (by omega)⟩

/-- An ID field behind the mark at `p` (20_memory R87, R91, R92). -/
theorem idField_bytes {byte : Nat → Byte} {p : Nat} {d : Density} {g : Geometry} {t s r : Nat}
    (h : StandsAt byte (p + 1) (fieldBytes d 0xFE (idBody g t s r))) :
    byte (p + 1) = BitVec.ofNat 8 t ∧ byte (p + 2) = BitVec.ofNat 8 s ∧ byte (p + 3) = BitVec.ofNat 8 r
      ∧ byte (p + 4) = lengthCode g.slen ∧ byte (p + 5) = crcHiByte (crc16 (markPrefix d 0xFE ++ idBody g t s r))
      ∧ byte (p + 6) = crcLoByte (crc16 (markPrefix d 0xFE ++ idBody g t s r)) := by
  obtain ⟨hbody, hhi, hlo⟩ := standsAt_fieldBytes h
  simp only [idBody, standsAt_cons] at hbody
  obtain ⟨htrack, hside, hsector, hcode, -⟩ := hbody
  exact ⟨htrack, hside, hsector, hcode, hhi, hlo⟩

/-- A data field behind the mark at `p` (20_memory R88, R91, R92). -/
theorem dataField_bytes {byte : Nat → Byte} {p : Nat} {m : Medium} {t s r : Nat}
    (h : StandsAt byte (p + 1) (fieldBytes m.density 0xFB (sectorData m t s r))) :
    (∀ i, i < m.geom.slen → byte (p + 1 + i) = m.image.read (imageOffset m.geom t s r + i))
      ∧ byte (p + 1 + m.geom.slen) = crcHiByte (crc16 (markPrefix m.density 0xFB ++ sectorData m t s r))
      ∧ byte (p + 2 + m.geom.slen) = crcLoByte (crc16 (markPrefix m.density 0xFB ++ sectorData m t s r)) := by
  obtain ⟨hbody, hhi, hlo⟩ := standsAt_fieldBytes h
  rw [sectorData_length] at hhi hlo
  rw [Nat.add_right_comm] at hlo
  exact ⟨fun i hi => (hbody i (by rwa [sectorData_length])).trans (sectorData_getD m t s r hi), hhi, hlo⟩

/-- A record that stands on the track, with its parts in the terms of the statement: `pre` is what the CRCs cover before
a mark, `sync` the bytes before a mark. -/
theorem recordStands_of_standsAt {m : Medium} {t s r base : Nat} {pre sync : List Byte} {gap : Byte} {gaps : Nat × Nat}
    (hwf : m.geom.wf m.density = true) (hpre : ∀ mark, markPrefix m.density mark = pre ++ [mark])
    (hsync : ∀ mark, syncBytes m.density mark = sync ++ [mark]) (hgap : gapByte m.density = gap)
    (hgaps : (gap2 m.density, Config.gap3 m.density) = gaps)
    (h : StandsAt (mediumByte m t s) base (sectorRecord m t s r)) : recordStands m t s r base pre sync gap gaps := by
  subst hgap hgaps
  unfold recordStands
  intro byte id data offset stored idCrc dataCrc
  obtain ⟨⟨hsync1, hidMark⟩, hidField, hgap2, ⟨hsync2, hdataMark⟩, hdataField, hgap3⟩ :=
    sectorRecord_parts hsync (standsAt_shift.mp h)
  obtain ⟨htrack, hside, hsector, hcode, hidHi, hidLo⟩ := idField_bytes hidField
  obtain ⟨hstored, hdataHi, hdataLo⟩ := dataField_bytes hdataField
  obtain ⟨n, hn, hbound, hslen⟩ := lengthCode_spec hwf
  have hidCovered : markPrefix m.density 0xFE ++ idBody m.geom t s r
      = pre ++ [0xFE, byte (id + 1), byte (id + 2), byte (id + 3), byte (id + 4)] := by
    simp only [byte, id, hpre, htrack, hside, hsector, hcode, idBody, List.append_assoc, List.singleton_append]
  have hdataCovered : markPrefix m.density 0xFB ++ sectorData m t s r = pre ++ [0xFB] ++ stored :=
    congrArg (· ++ stored) (hpre 0xFB)
  rw [hidCovered] at hidHi hidLo
  rw [hdataCovered] at hdataHi hdataLo
  exact ⟨standsAt_zero.mp hsync1, hidMark, htrack, hside, hsector, ⟨n, hcode.trans hn, hbound, hslen⟩, hidHi, hidLo,
    standsAt_replicate.mp hgap2, hsync2, hdataMark, hstored, hdataHi, hdataLo, standsAt_replicate.mp hgap3, hidField,
    fun i hi => hdataField i (by rwa [fieldBytes_length, sectorData_length])⟩

/-- Settles O41: both densities have the same record, up to what stands before a mark, the gap byte and the gaps. -/
theorem sectorRecordsStandAtTheirOffsets : Obligations.SectorRecordsStandAtTheirOffsets := by
  intro m t s r hwf hs hr hspt
  have hrecord := sectorRecord_stands (t := t) hs hr hspt
  refine ⟨fun hd => ?mfm, fun hd => ?fm⟩
  case mfm | fm =>
    rw [hd] at hrecord
    exact recordStands_of_standsAt hwf (by rw [hd]; exact fun _ => rfl) (by rw [hd]; exact fun _ => rfl) (by rw [hd]; rfl)
      (by rw [hd]; rfl) hrecord

end Sys2Proof.Proofs

/-! PROOFS. The command byte: the decoder and the encoder, the opcode table, and what the ignored bits and the length
code do (30_encoding R121 to R132). -/

namespace Sys2Proof.Proofs

open Sys2Proof.Machine Sys2Proof.Claims Sys2Proof.Laws

/-! Decoding the byte of a command: the byte is classified as the command's type, then its fields are read back. -/

/-- The byte of every command is of the command's type (30_encoding R121). -/
theorem classify_encode (i : Instr) : classify (encode i) = (commandName i).type := by
  cases i with
  | restore h v r => exact EncodedType.restore h v r
  | seek h v r => exact EncodedType.seek h v r
  | step u h v r => exact EncodedType.step u h v r
  | stepIn u h v r => exact EncodedType.stepIn u h v r
  | stepOut u h v r => exact EncodedType.stepOut u h v r
  | readSector m b e u x0 => exact EncodedType.readSector m b e u x0
  | writeSector m b e u a0 => exact EncodedType.writeSector m b e u a0
  | readAddress x3 e u x0 => exact EncodedType.readAddress x3 e u x0
  | readTrack x3 e u x0 => exact EncodedType.readTrack x3 e u x0
  | writeTrack x3 e u x0 => exact EncodedType.writeTrack x3 e u x0
  | forceInterrupt c => exact EncodedType.forceInterrupt c

theorem decodeTypeI_encode {i : Instr} (htype : (commandName i).type = .I) : decodeTypeI (encode i) = i := by
  cases i
  case restore | seek | step | stepIn | stepOut => decide +revert
  case readSector | writeSector | readAddress | readTrack | writeTrack | forceInterrupt => cases htype

theorem decodeTypeII_encode {i : Instr} (htype : (commandName i).type = .II) : decodeTypeII (encode i) = i := by
  cases i
  case readSector | writeSector => decide +revert
  case restore | seek | step | stepIn | stepOut | readAddress | readTrack | writeTrack | forceInterrupt => cases htype

theorem decodeTypeIII_encode {i : Instr} (htype : (commandName i).type = .III) : decodeTypeIII (encode i) = i := by
  cases i
  case readAddress | readTrack | writeTrack => decide +revert
  case restore | seek | step | stepIn | stepOut | readSector | writeSector | forceInterrupt => cases htype

theorem decodeTypeIV_encode {i : Instr} (htype : (commandName i).type = .IV) : decodeTypeIV (encode i) = i := by
  cases i
  case forceInterrupt => decide +revert
  case restore | seek | step | stepIn | stepOut | readSector | writeSector | readAddress | readTrack | writeTrack =>
    cases htype

theorem decode_encode (i : Instr) : decode (encode i) = i := by
  unfold decode
  rw [classify_encode]
  cases htype : (commandName i).type with
  | I => exact decodeTypeI_encode htype
  | II => exact decodeTypeII_encode htype
  | III => exact decodeTypeIII_encode htype
  | IV => exact decodeTypeIV_encode htype

/-! Every byte is the byte of a command. -/

/-- The layouts of 30_encoding R122, R126, R128 and R129: the command of a byte, from its bits. -/
def commandOfBits (b7 b6 b5 b4 b3 b2 b1 b0 : Bool) : Instr :=
  match b7, b6, b5, b4 with
  | false, false, false, false => .restore b3 b2 (BitVec.ofBool b1 ++ BitVec.ofBool b0)
  | false, false, false, true => .seek b3 b2 (BitVec.ofBool b1 ++ BitVec.ofBool b0)
  | false, false, true, u => .step u b3 b2 (BitVec.ofBool b1 ++ BitVec.ofBool b0)
  | false, true, false, u => .stepIn u b3 b2 (BitVec.ofBool b1 ++ BitVec.ofBool b0)
  | false, true, true, u => .stepOut u b3 b2 (BitVec.ofBool b1 ++ BitVec.ofBool b0)
  | true, false, false, m => .readSector m b3 b2 b1 b0
  | true, false, true, m => .writeSector m b3 b2 b1 b0
  | true, true, false, false => .readAddress b3 b2 b1 b0
  | true, true, false, true =>
    .forceInterrupt (BitVec.ofBool b3 ++ BitVec.ofBool b2 ++ BitVec.ofBool b1 ++ BitVec.ofBool b0)
  | true, true, true, false => .readTrack b3 b2 b1 b0
  | true, true, true, true => .writeTrack b3 b2 b1 b0

theorem encode_commandOfBits (b7 b6 b5 b4 b3 b2 b1 b0 : Bool) :
    encode (commandOfBits b7 b6 b5 b4 b3 b2 b1 b0) = byteOfBits b7 b6 b5 b4 b3 b2 b1 b0 := by
  unfold commandOfBits
  split <;> decide +revert

/-- A byte is its bits. -/
theorem byteOfBits_getLsbD (v : Byte) :
    byteOfBits (v.getLsbD 7) (v.getLsbD 6) (v.getLsbD 5) (v.getLsbD 4) (v.getLsbD 3) (v.getLsbD 2) (v.getLsbD 1)
      (v.getLsbD 0) = v := by
  obtain ⟨h7, h6, h5, h4, h3, h2, h1, h0⟩ := byteOfBits_bits (v.getLsbD 7) (v.getLsbD 6) (v.getLsbD 5) (v.getLsbD 4)
    (v.getLsbD 3) (v.getLsbD 2) (v.getLsbD 1) (v.getLsbD 0)
  refine BitVec.eq_of_getLsbD_eq fun i hi => ?_
  interval_cases i <;> assumption

theorem exists_byteOfBits (v : Byte) : ∃ b7 b6 b5 b4 b3 b2 b1 b0, v = byteOfBits b7 b6 b5 b4 b3 b2 b1 b0 :=
  ⟨_, _, _, _, _, _, _, _, (byteOfBits_getLsbD v).symm⟩

theorem encode_surjective : Function.Surjective encode := by
  intro v
  obtain ⟨b7, b6, b5, b4, b3, b2, b1, b0, rfl⟩ := exists_byteOfBits v
  exact ⟨_, encode_commandOfBits b7 b6 b5 b4 b3 b2 b1 b0⟩

/-- Settles O1: the decoder reads every command back from its byte, and every byte is the byte of a command. -/
theorem decodeAndEncodeAgree : Obligations.DecodeAndEncodeAgree :=
  ⟨fun i _ => decode_encode i, Function.LeftInverse.rightInverse_of_surjective decode_encode encode_surjective⟩

/-! The opcode classes and the precedence of the types (30_encoding R121, R132). -/

theorem decode_byteOfBits (b7 b6 b5 b4 b3 b2 b1 b0 : Bool) :
    decode (byteOfBits b7 b6 b5 b4 b3 b2 b1 b0) = commandOfBits b7 b6 b5 b4 b3 b2 b1 b0 := by
  rw [← encode_commandOfBits, decode_encode]

theorem byteOfBits_and_highNibble : ∀ b7 b6 b5 b4 b3 b2 b1 b0 : Bool,
    byteOfBits b7 b6 b5 b4 b3 b2 b1 b0 &&& 0xF0 = byteOfBits b7 b6 b5 b4 false false false false := by decide

/-- The high nibble of a byte chooses the command. -/
theorem commandName_decode_highNibble (v : Byte) : commandName (decode (v &&& 0xF0)) = commandName (decode v) := by
  obtain ⟨b7, b6, b5, b4, b3, b2, b1, b0, rfl⟩ := exists_byteOfBits v
  rw [byteOfBits_and_highNibble, decode_byteOfBits, decode_byteOfBits]
  unfold commandOfBits
  split <;> rfl

/-- Every mask of the table lies in the high nibble. -/
theorem opcodeClasses_mask : ∀ c ∈ opcodeClasses, 0xF0 &&& c.2.1 = c.2.1 := by decide

/-- The rows of the table on the 16 bytes whose low nibble is 0. -/
theorem opcodeClasses_nibble : ∀ c ∈ opcodeClasses, ∀ b7 b6 b5 b4 : Bool,
    commandName (decode (byteOfBits b7 b6 b5 b4 false false false false)) = c.1
      ↔ byteOfBits b7 b6 b5 b4 false false false false &&& c.2.1 = c.2.2.1 := by decide

/-- A mask sees no bit below the high nibble, so a row of the table holds of a byte as of its high nibble. -/
theorem commandName_decode_iff {c : CmdName × Byte × Byte × Nat} (hc : c ∈ opcodeClasses) (v : Byte) :
    commandName (decode v) = c.1 ↔ v &&& c.2.1 = c.2.2.1 := by
  obtain ⟨b7, b6, b5, b4, b3, b2, b1, b0, rfl⟩ := exists_byteOfBits v
  have hhigh := opcodeClasses_nibble c hc b7 b6 b5 b4
  rwa [← byteOfBits_and_highNibble b7 b6 b5 b4 b3 b2 b1 b0, commandName_decode_highNibble, BitVec.and_assoc,
    opcodeClasses_mask c hc] at hhigh

/-- Settles O2: mask and match choose the command, and the rest counts the table. -/
theorem opcodeClassesDivideTheBytes : Obligations.OpcodeClassesDivideTheBytes :=
  ⟨fun _ hc v => commandName_decode_iff hc v, by decide, by decide +kernel, rfl⟩

/-- Settles O3: the precedence is the order of the tests of `classify`. -/
theorem classifyFollowsThePrecedence : Obligations.ClassifyFollowsThePrecedence := by
  intro v
  refine ⟨fun hIV => ?IV, fun hIV h7 => ?I, fun hIV h7 hII => ?II, fun hIV h7 hII => ?III, decode_type v⟩
  case IV => exact if_pos hIV
  case I => exact (if_neg hIV).trans (if_pos h7)
  case II => exact (if_neg hIV).trans ((if_neg (by simp [h7])).trans (if_pos hII))
  case III => exact (if_neg hIV).trans ((if_neg (by simp [h7])).trans (if_neg hII))

/-- Settles O4: each byte is the encoding of its command. -/
theorem sampleBytesDecode : Obligations.SampleBytesDecode :=
  ⟨decode_encode (.restore true false 3), decode_encode (.seek true true 3),
    decode_encode (.stepIn true true false 0), decode_encode (.readSector true true true true false),
    decode_encode (.writeSector false true false false true),
    decode_encode (.readAddress false true false false), decode_encode (.forceInterrupt 0b0100),
    decode_encode (.readTrack false true false false), decode_encode (.writeTrack true true true true)⟩

/-! The ignored bits (30_encoding R131). -/

/-- The state with another byte in `CR`. -/
def withCr (cr : Byte) (s : State) : State := { s with regs.cr := cr }

theorem hldSet_withCr (cr : Byte) (s : State) : (withCr cr s).hldSet = withCr cr s.hldSet := by
  have hpins : (withCr cr s).pins.hld = s.pins.hld := rfl
  unfold State.hldSet
  rw [hpins]
  split <;> rfl

theorem type23Setup_withCr (cr : Byte) (s : State) : (withCr cr s).type23Setup = withCr cr s.type23Setup :=
  congrArg
    (fun t : State => { t with timers.eDelay := 0, cmd.phase := if t.cmd.flags.eDelay then .xEDelay else .xWaitHlt })
    (hldSet_withCr cr { s with pins.sideSelect := s.cmd.flags.updateSide })

/-- A byte written while a command is in flight is rejected (40_common R160). -/
theorem writeTypeIIorIII_of_busy (v : Byte) (n : CmdName) (f : CmdFlags) {s : State}
    (hbusy : s.prog.commandDone = false) : s.writeTypeIIorIII v n f = s.statusRefresh := by
  simp [State.writeTypeIIorIII, hbusy]

/-- A byte written with the drive not ready is aborted (40_common R159). -/
theorem writeTypeIIorIII_of_notReady (v : Byte) (n : CmdName) (f : CmdFlags) {s : State}
    (hdone : s.prog.commandDone = true) (hready : s.pins.ready = false) :
    s.writeTypeIIorIII v n f = (s.startCommon v n f).notReadyAbort.statusRefresh := by
  simp [State.writeTypeIIorIII, hdone, hready]

/-- Any other byte starts its command (40_common R157, 42_type2 R240). -/
theorem writeTypeIIorIII_of_ready (v : Byte) (n : CmdName) (f : CmdFlags) {s : State}
    (hdone : s.prog.commandDone = true) (hready : s.pins.ready = true) :
    s.writeTypeIIorIII v n f = (s.startCommon v n f).setBusy.type23Setup.statusRefresh := by
  simp [State.writeTypeIIorIII, hdone, hready]

/-- The command byte goes to `CR` and nowhere else: written with another byte, a command leaves another `CR` at most. -/
theorem writeTypeIIorIII_byte (v w : Byte) (n : CmdName) (f : CmdFlags) (s : State) :
    ∃ cr, s.writeTypeIIorIII w n f = withCr cr (s.writeTypeIIorIII v n f) := by
  cases hdone : s.prog.commandDone with
  | false =>
    simp only [writeTypeIIorIII_of_busy _ n f hdone]
    exact ⟨s.regs.cr, rfl⟩
  | true =>
    cases hready : s.pins.ready with
    | false =>
      simp only [writeTypeIIorIII_of_notReady _ n f hdone hready]
      exact ⟨w, rfl⟩
    | true =>
      simp only [writeTypeIIorIII_of_ready _ n f hdone hready]
      exact ⟨w, congrArg State.statusRefresh (type23Setup_withCr w (s.startCommon v n f).setBusy)⟩

/-- Two bytes of one command with the same flags complete in states that differ in `CR` alone. -/
theorem exec_ignores_byte {i j : Instr} {n : CmdName} {f : CmdFlags} {s : State}
    (hi : exec i s = .next (s.writeTypeIIorIII (encode i) n f))
    (hj : exec j s = .next (s.writeTypeIIorIII (encode j) n f)) :
    ∃ t cr, exec i s = .next t ∧ exec j s = .next { t with regs.cr := cr } := by
  obtain ⟨cr, hcr⟩ := writeTypeIIorIII_byte (encode i) (encode j) n f s
  exact ⟨_, cr, hi, hj.trans (congrArg Host.Outcome.next hcr)⟩

/-- Settles O5: the ignored bits are in the byte of the command and in none of its flags. -/
theorem ignoredBitsChangeOnlyCr : Obligations.IgnoredBitsChangeOnlyCr :=
  ⟨fun _ _ _ _ _ _ _ => exec_ignores_byte rfl rfl, fun _ _ _ _ _ _ _ => exec_ignores_byte rfl rfl,
    fun _ _ _ _ _ _ _ => exec_ignores_byte rfl rfl, fun _ _ _ _ _ _ _ => exec_ignores_byte rfl rfl⟩

/-! The sector length (30_encoding R130, 20_memory R87). -/

/-- The length codes of formatted media stand for 128, 256, 512 and 1024 bytes with `f_b = 1`, and for the next
length of that cycle with `f_b = 0`. -/
theorem seclen_ofNat : ∀ n < 4,
    seclen (BitVec.ofNat 8 n) true = 128 * 2 ^ n ∧ seclen (BitVec.ofNat 8 n) false = 128 * 2 ^ ((n + 1) % 4) := by
  decide

/-- Settles O6: the table is the branches of `seclen`, and a medium's code is the exponent of its sector length. -/
theorem lengthMatchesOnlyWithSwapFlag : Obligations.LengthMatchesOnlyWithSwapFlag := by
  refine ⟨fun n => ?table, fun d g hwf => ?own⟩
  case table => refine ⟨fun h => ?_, fun h => ?_, fun h => ?_, fun h => ?_⟩ <;> simp [seclen, h]
  case own =>
    obtain ⟨n, hcode, hn, hslen⟩ := lengthCode_spec hwf
    obtain ⟨hswapped, hplain⟩ := seclen_ofNat n hn
    rw [hcode, hslen, hswapped, hplain]
    refine ⟨rfl, fun heq => ?_⟩
    have hexp : (n + 1) % 4 = n := Nat.pow_right_injective le_rfl (Nat.eq_of_mul_eq_mul_left (by decide) heq)
    omega

end Sys2Proof.Proofs

/-! PROOFS. The write of a command byte, every field said: a Type I, II or III command starts, is aborted, or is
rejected (40_common R157 to R160, 41_type1 R200, R201, 42_type2 R240). -/

namespace Sys2Proof.Proofs

open Sys2Proof.Machine Sys2Proof.Claims

/-! Head load at the start of a command. -/

/-- `hld_set()`, field by field: HLT and its timer survive only under a head that is already loaded (40_common R172). -/
theorem hldSet_eq (s : State) :
    s.hldSet =
      { s with
        pins.hld := true
        pins.hlt := s.pins.hld && s.pins.hlt
        timers.hlt := if s.pins.hld then s.timers.hlt else 0 } := by
  rcases s.hldSet_cases with ⟨hloaded, ht⟩ | ⟨hunloaded, ht⟩ <;> rw [ht]
  · have hpins : ({ s.pins with hld := true } : Pins) = s.pins := by rw [← hloaded]
    simp only [hloaded, Bool.true_and, if_true, hpins]
  · simp only [hunloaded, Bool.false_and, Bool.false_eq_true, if_false]

/-- `head_load_at_start()`, field by field: HLD follows the h flag (41_type1 R201). -/
theorem headLoadAtStart_eq (s : State) :
    s.headLoadAtStart =
      { s with
        pins.hld := s.cmd.flags.headLoad
        pins.hlt := if s.cmd.flags.headLoad then s.pins.hld && s.pins.hlt else s.pins.hlt
        timers.hlt := if s.cmd.flags.headLoad && !s.pins.hld then 0 else s.timers.hlt } := by
  unfold State.headLoadAtStart
  cases hload : s.cmd.flags.headLoad with
  | false => rfl
  | true =>
    rw [if_pos rfl, hldSet_eq]
    cases s.pins.hld <;> rfl

/-! Type I. -/

theorem writeTypeI_of_busy (v : Byte) (n : CmdName) (f : CmdFlags) (dir : Bool) {s : State}
    (hbusy : s.prog.commandDone = false) : s.writeTypeI v n f dir = s.statusRefresh := by
  simp [State.writeTypeI, hbusy]

/-- A Type I byte written while no command is in flight starts its command (40_common R158, 41_type1 R200). -/
theorem writeTypeI_of_idle {i : Instr} (htype : (commandName i).type = .I) (f : CmdFlags) (dir : Bool) {s : State}
    (hdone : s.prog.commandDone = true) :
    s.writeTypeI (encode i) (commandName i) f dir = startedTypeI i f.headLoad f dir s := by
  rw [State.writeTypeI, if_pos hdone, State.type1Setup, headLoadAtStart_eq]
  simp only [State.startCommon, htype, if_true]
  rfl

/-- Settles O8: each of the five is the write of a Type I byte with the flags and the direction of its case. -/
theorem typeICommandsStartStepping : Obligations.TypeICommandsStartStepping := by
  intro s hdone
  have starts {i : Instr} (htype : (commandName i).type = .I) {f : CmdFlags} {dir : Bool} :=
    congrArg (Host.Outcome.next (φ := Fault) (ρ := Refusal)) (writeTypeI_of_idle htype f dir hdone)
  exact ⟨fun _ _ _ => starts rfl, fun _ _ _ => starts rfl, fun _ _ _ _ => starts rfl, fun _ _ _ _ => starts rfl,
    fun _ _ _ _ => starts rfl⟩

/-! Types II and III. -/

theorem commandType_ne_I {i : Instr} (htype : (commandName i).type = .II ∨ (commandName i).type = .III) :
    (commandName i).type ≠ .I := by
  rcases htype with h | h <;> rw [h] <;> nofun

/-- A Type II or III byte written to an idle block with the drive ready starts its command (42_type2 R240). -/
theorem writeTypeIIorIII_starts {i : Instr} (htype : (commandName i).type = .II ∨ (commandName i).type = .III)
    (f : CmdFlags) {s : State} (hdone : s.prog.commandDone = true) (hready : s.pins.ready = true) :
    s.writeTypeIIorIII (encode i) (commandName i) f = startedTypeIIorIII i f s := by
  rw [writeTypeIIorIII_of_ready _ _ _ hdone hready, State.type23Setup, hldSet_eq]
  simp only [State.startCommon, commandType_ne_I htype, if_false]
  rfl

/-- A Type II or III byte written to an idle block with the drive not ready is aborted (40_common R159). -/
theorem writeTypeIIorIII_aborts {i : Instr} (htype : (commandName i).type = .II ∨ (commandName i).type = .III)
    (f : CmdFlags) {s : State} (hdone : s.prog.commandDone = true) (hready : s.pins.ready = false) :
    s.writeTypeIIorIII (encode i) (commandName i) f = abortedNotReady i f s := by
  rw [writeTypeIIorIII_of_notReady _ _ _ hdone hready]
  simp only [State.startCommon, commandType_ne_I htype, if_false, hdone]
  rfl

/-- What a Type II or III byte completes in is decided by its flags alone: with `outcome` the state that the write of
any such byte gives, each of the five commands completes in it, with the flags that it decodes and the Type I flags of
before (30_encoding R127, R128). -/
theorem exec_typeIIorIII_completes {s : State} {outcome : Instr → CmdFlags → State}
    (hwrite : ∀ (i : Instr) (f : CmdFlags), (commandName i).type = .II ∨ (commandName i).type = .III →
      s.writeTypeIIorIII (encode i) (commandName i) f = outcome i f) :
    (∀ m b e u x, ∃ f, typeIIFlags f s.cmd.flags m b e u
        ∧ exec (.readSector m b e u x) s = .next (outcome (.readSector m b e u x) f))
      ∧ (∀ m b e u a, ∃ f, typeIIFlags f s.cmd.flags m b e u ∧ f.a0 = a
        ∧ exec (.writeSector m b e u a) s = .next (outcome (.writeSector m b e u a) f))
      ∧ (∀ x e u y, ∃ f, typeIIIFlags f s.cmd.flags e u
        ∧ exec (.readAddress x e u y) s = .next (outcome (.readAddress x e u y) f))
      ∧ (∀ x e u y, ∃ f, typeIIIFlags f s.cmd.flags e u
        ∧ exec (.readTrack x e u y) s = .next (outcome (.readTrack x e u y) f))
      ∧ (∀ x e u y, ∃ f, typeIIIFlags f s.cmd.flags e u
        ∧ exec (.writeTrack x e u y) s = .next (outcome (.writeTrack x e u y) f)) := by
  have typeIIIFlags_decoded (e u : Bool) : typeIIIFlags (s.cmd.flags.withTypeIII e u) s.cmd.flags e u :=
    ⟨rfl, rfl, rfl, rfl, rfl, rfl⟩
  refine ⟨fun m b e u x => ?readSector, fun m b e u a => ?writeSector, fun x e u y => ?readAddress,
    fun x e u y => ?readTrack, fun x e u y => ?writeTrack⟩
  case readSector =>
    exact ⟨s.cmd.flags.withReadSector m b e u, ⟨rfl, rfl, rfl, rfl, rfl, rfl, rfl, rfl⟩,
      congrArg Host.Outcome.next (hwrite _ _ (.inl rfl))⟩
  case writeSector =>
    exact ⟨s.cmd.flags.withWriteSector m b e u a, ⟨rfl, rfl, rfl, rfl, rfl, rfl, rfl, rfl⟩, rfl,
      congrArg Host.Outcome.next (hwrite _ _ (.inl rfl))⟩
  case readAddress | readTrack | writeTrack =>
    exact ⟨_, typeIIIFlags_decoded e u, congrArg Host.Outcome.next (hwrite _ _ (.inr rfl))⟩

/-- Settles O9: with the drive ready the write starts the command. -/
theorem typeIIAndIIICommandsStart : Obligations.TypeIIAndIIICommandsStart := fun _ hdone hready =>
  exec_typeIIorIII_completes fun _ f htype => writeTypeIIorIII_starts htype f hdone hready

/-- Settles O10: with the drive not ready the write is aborted. -/
theorem notReadyAbortsTypeIIAndIII : Obligations.NotReadyAbortsTypeIIAndIII := fun _ hdone hready =>
  exec_typeIIorIII_completes fun _ f htype => writeTypeIIorIII_aborts htype f hdone hready

/-! A command in flight (40_common R160). -/

/-- `status_refresh()` changes nothing where `STR` is up to date (40_common R156). -/
theorem statusRefresh_of_str {s : State} (hstr : s.regs.str = s.status) : s.statusRefresh = s := by
  have hregs : ({ s.regs with str := s.status } : Regs) = s.regs := by rw [← hstr]
  rw [State.statusRefresh, hregs]

/-- Settles O11: a rejected byte leaves only `status_refresh()` to do. -/
theorem commandWhileBusyIsRejected : Obligations.CommandWhileBusyIsRejected := by
  intro i s hname hbusy hstr
  rcases exec_cases i s with ⟨-, f, dir, hI⟩ | ⟨-, f, hII⟩ | ⟨c, rfl, -⟩
  · rw [hI, writeTypeI_of_busy _ _ _ _ hbusy, statusRefresh_of_str hstr]
  · rw [hII, writeTypeIIorIII_of_busy _ _ _ hbusy, statusRefresh_of_str hstr]
  · exact absurd rfl hname

end Sys2Proof.Proofs

/-! PROOFS. The pins, the conditions of FORCE INTERRUPT, the search window, and that no call faults in a sound state
(40_common R153, R154, R165, R178, R182; 44_type4 R313 to R315). -/

namespace Sys2Proof.Proofs

open Sys2Proof.Machine Sys2Proof.Claims

/-- Settles O17: the ten levels are fields of the state, `not_track00` computed from the head. -/
theorem pinsReadHasNoSideEffect : Obligations.PinsReadHasNoSideEffect :=
  fun _ _ hcall => step_of_call hcall

/-! A condition that fires (44_type4 R313). -/

/-- INTRQ is set, and a command in flight is terminated; an idle block keeps its phase and its DRQ. -/
theorem fireCondition_eq (s : State) :
    s.fireCondition =
      { s with
        pins := { s.pins with intrq := true, drq := s.pins.drq && s.prog.commandDone }
        prog := { s.prog with commandDone := true }
        cmd := { s.cmd with phase := if s.prog.commandDone then s.cmd.phase else .idle } } := by
  rcases s.fireCondition_cases with ⟨hdone, ht⟩ | ⟨hbusy, ht⟩ <;> rw [ht]
  · have hprog : ({ s.prog with commandDone := true } : Progress) = s.prog := by rw [← hdone]
    simp only [hdone, Bool.and_true, if_true, hprog]
  · simp only [hbusy, Bool.and_false, Bool.false_eq_true, if_false]
    rfl

/-- Settles O18: an armed transition fires its condition on the new level, any other leaves the new level alone. -/
theorem readyTransitionsFireArmedConditions : Obligations.ReadyTransitionsFireArmedConditions := by
  intro s level rest hcall
  rw [step_of_call hcall]
  refine congrArg (fun t : State => Host.Outcome.next t.statusRefresh) ?_
  rcases State.readyConditions_cases s.pins.ready level { s.takeCall rest with pins.ready := level }
    with ⟨harmed, ht⟩ | ⟨hquiet, ht⟩
  · exact (ht.trans (fireCondition_eq _)).trans (if_pos harmed).symm
  · exact ht.trans (if_neg hquiet).symm

/-! Step 4 of a tick, branch by branch (40_common R165). -/

section CommandStep

variable {s : State} {dt : Time} {e : TickEvents}

theorem commandStep_of_index (hie : e.ie = true) (harmed : s.cmd.armed.i2 = true) :
    s.commandStep dt e = s.fireCondition := if_pos ⟨hie, harmed⟩

theorem commandStep_of_idle (hquiet : ¬ (e.ie = true ∧ s.cmd.armed.i2 = true)) (hdone : s.prog.commandDone = true) :
    s.commandStep dt e = s := (if_neg hquiet).trans (if_pos hdone)

theorem commandStep_of_busy (hquiet : ¬ (e.ie = true ∧ s.cmd.armed.i2 = true)) (hbusy : s.prog.commandDone = false)
    {n : CmdName} (hn : s.cmd.cmdName = some n) : s.commandStep dt e = s.handler n dt e := by
  simp only [State.commandStep, if_neg hquiet, hbusy, Bool.false_eq_true, if_false, hn]

end CommandStep

/-- Settles O22: the three cases are the branches of `command_step`. -/
theorem indexConditionActsBeforeTheHandler : Obligations.IndexConditionActsBeforeTheHandler := fun s _ _ =>
  ⟨fun hie harmed => (commandStep_of_index hie harmed).trans (fireCondition_eq s), commandStep_of_idle,
    fun hquiet hbusy _ hn => commandStep_of_busy hquiet hbusy hn⟩

/-! The search window (40_common R178). -/

/-- An index edge short of the fifth is only counted. -/
theorem searchWindow_counts {s : State} (h : s.search.indexCount + 1 < Config.searchRevs) :
    s.searchWindow true = { s with search.indexCount := s.search.indexCount + 1 } :=
  (if_pos rfl).trans (if_neg (Nat.not_le.mpr h))

/-- The fifth index edge fails the search. -/
theorem searchWindow_fails {s : State} (h : Config.searchRevs ≤ s.search.indexCount + 1) :
    s.searchWindow true = State.searchFail { s with search.indexCount := s.search.indexCount + 1 } :=
  (if_pos rfl).trans (if_pos h)

/-- A verify fails with `seek_error`, any other search with `rnf`; both end the command. -/
theorem searchFail_eq (s : State) :
    s.searchFail =
      State.finish
        { s with
          latched :=
            if s.cmd.phase = .t1Verify then { s.latched with seekError := true } else { s.latched with rnf := true } } := by
  unfold State.searchFail
  split <;> rfl

/-- Settles O30: no edge, an edge short of the fifth, and the fifth. -/
theorem searchFailsAtTheFifthIndexEdge : Obligations.SearchFailsAtTheFifthIndexEdge := fun _ =>
  ⟨rfl, searchWindow_counts, fun hfifth => (searchWindow_fails hfifth).trans (searchFail_eq _)⟩

/-! Safe outcomes (40_common R182). -/

theorem safeOutcome_next (s : State) : safeOutcome (.next s) := nofun

theorem safeOutcome_refused (r : Refusal) : safeOutcome (.refused r) := nofun

/-- A command byte completes, whatever the state: no arm of `exec` stops (30_encoding R131). -/
theorem exec_safe (i : Instr) (s : State) : safeOutcome (exec i s) := by
  rcases exec_cases i s with ⟨-, f, dir, ht⟩ | ⟨-, f, ht⟩ | ⟨c, -, ht⟩ <;> rw [ht] <;> exact safeOutcome_next _

/-- X2 BAD_MEDIUM and the range of the HLT delay are refusals (60_exceptions R338; log 9). -/
theorem resetCall_safe (c : Setup) (s : State) : safeOutcome (s.resetCall c) := by
  unfold State.resetCall
  split
  · exact safeOutcome_refused _
  · split
    · exact safeOutcome_refused _
    · exact safeOutcome_next _

/-- The two faults of `advance(dt)` name a head off the medium and a phase with no handler, which a sound state
excludes; a tick out of range is refused (60_exceptions R338, R339; logs 10, 11). -/
theorem advance_safe {s : State} (dt : Time) (honMedium : s.head.currentTrack < s.medium.geom.cyl)
    (hhandled : s.prog.commandDone = false → s.hasHandler = true) : safeOutcome (s.advance dt) := by
  by_cases hrange : 0 < dt ∧ dt ≤ Config.byteTime s.medium.density
  · rw [State.advance_eq hrange honMedium hhandled]
    exact safeOutcome_next _
  · rw [advance_refused hrange]
    exact safeOutcome_refused _

/-- Settles O52: of the calls only `advance(dt)` has a fault to answer. -/
theorem soundStatesNeverFault : Obligations.SoundStatesNeverFault := by
  intro s hs
  cases hcalls : s.calls with
  | nil =>
    rw [step, nextCall, hcalls]
    exact safeOutcome_next s
  | cons call rest =>
    rw [step_of_call hcalls]
    cases call with
    | reset c => exact resetCall_safe c _
    | write port v =>
      rw [runCall]
      split
      · exact exec_safe _ _
      · exact safeOutcome_next _
    | read port => exact safeOutcome_next _
    | advance dt => exact advance_safe dt hs.onMedium hs.handled
    | setReady level => exact safeOutcome_next _
    | pins => exact safeOutcome_next _

end Sys2Proof.Proofs

/-! PROOFS. The mark detector and the ID collector: what one byte does to each, and what a whole sync field and a whole
ID field do (40_common R175 to R177, 20_memory R84, R85, R87, R91, R92). -/

namespace Sys2Proof.Proofs

open Sys2Proof.Machine Sys2Proof.Claims

/-! One byte at the detector (40_common R175, R176). -/

section Detector

variable {q : Search} {b : Byte} {marks : List Byte}

theorem detect_mfm_zero (hb : b = 0x00) : q.detect .mfm b marks = ({ q with zr := q.zr + 1, sc := 0 }, none) :=
  if_pos hb

theorem detect_mfm_sync (hsync : b = 0xA1 ∧ 6 ≤ q.zr ∧ q.sc < 3) :
    q.detect .mfm b marks = ({ q with sc := q.sc + 1 }, none) := by
  have hb : b ≠ 0x00 := by rw [hsync.1]; decide
  exact (if_neg hb).trans (if_pos hsync)

theorem detect_mfm_mark (hb : b ≠ 0x00) (hsync : ¬ (b = 0xA1 ∧ 6 ≤ q.zr ∧ q.sc < 3)) (hmark : b ∈ marks ∧ q.sc = 3) :
    q.detect .mfm b marks = ({ q with zr := 0, sc := 0 }, some b) :=
  (if_neg hb).trans ((if_neg hsync).trans (if_pos hmark))

theorem detect_mfm_other (hb : b ≠ 0x00) (hsync : ¬ (b = 0xA1 ∧ 6 ≤ q.zr ∧ q.sc < 3))
    (hmark : ¬ (b ∈ marks ∧ q.sc = 3)) : q.detect .mfm b marks = ({ q with zr := 0, sc := 0 }, none) :=
  (if_neg hb).trans ((if_neg hsync).trans (if_neg hmark))

theorem detect_fm_zero (hb : b = 0x00) : q.detect .fm b marks = ({ q with zr := q.zr + 1 }, none) := if_pos hb

theorem detect_fm_mark (hb : b ≠ 0x00) (hmark : b ∈ marks ∧ 6 ≤ q.zr) :
    q.detect .fm b marks = ({ q with zr := 0, sc := 0 }, some b) := (if_neg hb).trans (if_pos hmark)

theorem detect_fm_other (hb : b ≠ 0x00) (hmark : ¬ (b ∈ marks ∧ 6 ≤ q.zr)) :
    q.detect .fm b marks = ({ q with zr := 0, sc := 0 }, none) := (if_neg hb).trans (if_neg hmark)

end Detector

/-! A sync field at the detector. -/

theorem fedDetector_append (d : Density) (marks : List Byte) (q : Search) (bs cs : List Byte) :
    fedDetector d marks q (bs ++ cs) = fedDetector d marks (fedDetector d marks q bs) cs := List.foldl_append

/-- The zero run grows by the zeros, in both densities. -/
theorem fedDetector_zeros_zr (d : Density) (marks : List Byte) (q : Search) (n : Nat) :
    (fedDetector d marks q (List.replicate n 0x00)).zr = q.zr + n := by
  induction n with
  | zero => rfl
  | succ n ih =>
    rw [List.replicate_succ', fedDetector_append, ← Nat.add_assoc, ← ih]
    cases d <;> rfl

/-- In MFM the last zero clears the sync count, whatever it was. -/
theorem fedDetector_zeros_sc (marks : List Byte) (q : Search) {n : Nat} (hn : 0 < n) :
    (fedDetector .mfm marks q (List.replicate n 0x00)).sc = 0 := by
  obtain ⟨k, rfl⟩ := Nat.exists_eq_add_one.mpr hn
  rw [List.replicate_succ', fedDetector_append]
  rfl

/-- Behind a long enough zero run three 0xA1 are counted, and the run is kept. -/
theorem fedDetector_syncs (marks : List Byte) {q : Search} (hzr : 6 ≤ q.zr) (hsc : q.sc = 0) :
    fedDetector .mfm marks q [0xA1, 0xA1, 0xA1] = { q with sc := 3 } := by
  have hsync (k : Nat) (hk : k < 3) :
      ({ q with sc := k } : Search).detect .mfm 0xA1 marks = ({ q with sc := k + 1 }, none) :=
    detect_mfm_sync (q := { q with sc := k }) ⟨rfl, hzr, hk⟩
  have hstart : q = { q with sc := 0 } := by rw [← hsc]
  rw [hstart]
  simp only [fedDetector, List.foldl_cons, List.foldl_nil, hsync 0 (by decide), hsync 1 (by decide), hsync 2 (by decide)]

/-- An MFM sync field makes the detector find the mark behind it, whatever state it was in. -/
theorem detect_after_mfm_sync (q : Search) {marks : List Byte} {mark : Byte} {n : Nat} (hmem : mark ∈ marks)
    (hzero : mark ≠ 0x00) (hA1 : mark ≠ 0xA1) (hn : 6 ≤ n) :
    ((fedDetector .mfm marks q (List.replicate n 0x00 ++ [0xA1, 0xA1, 0xA1])).detect .mfm mark marks).2 = some mark := by
  have hzr : 6 ≤ (fedDetector .mfm marks q (List.replicate n 0x00)).zr := by rw [fedDetector_zeros_zr]; omega
  rw [fedDetector_append, fedDetector_syncs marks hzr (fedDetector_zeros_sc marks q (by omega)),
    detect_mfm_mark hzero (fun hsync => hA1 hsync.1) ⟨hmem, rfl⟩]

/-- So does an FM sync field, with no sync bytes. -/
theorem detect_after_fm_sync (q : Search) {marks : List Byte} {mark : Byte} {n : Nat} (hmem : mark ∈ marks)
    (hzero : mark ≠ 0x00) (hn : 6 ≤ n) :
    ((fedDetector .fm marks q (List.replicate n 0x00)).detect .fm mark marks).2 = some mark := by
  have hzr : 6 ≤ (fedDetector .fm marks q (List.replicate n 0x00)).zr := by rw [fedDetector_zeros_zr]; omega
  rw [detect_fm_mark hzero ⟨hmem, hzr⟩]

/-- Settles O43: the cases are the branches of the detector, and a sync field leads it to the branch that returns the
mark. -/
theorem detectorFindsMarksAfterSync : Obligations.DetectorFindsMarksAfterSync := by
  refine ⟨fun q b marks => ?cases, fun s b marks => ⟨rfl, rfl⟩, fun q marks mark n hmem hzero hA1 hn => ?sync⟩
  case cases =>
    exact ⟨detect_mfm_zero, detect_mfm_sync, detect_mfm_mark, detect_mfm_other, detect_fm_zero, detect_fm_mark,
      detect_fm_other⟩
  case sync => exact ⟨detect_after_mfm_sync q hmem hzero hA1 hn, detect_after_fm_sync q hmem hzero hn⟩

/-! One byte at the ID collector (40_common R177). -/

section Collector

variable {s : State} {b : Byte}

theorem idResult_of_hunting (hhunting : s.search.amFound = false) : s.idResult b = none := by
  simp [State.idResult, hhunting]

/-- A byte that is no mark only goes to the detector. -/
theorem idByte_of_none (hhunting : s.search.amFound = false) (hnone : s.detected b [0xFE] = none) :
    s.idByte b = s.detect b [0xFE] := by
  simp only [State.idByte, State.idHunt, hhunting, hnone, Bool.false_eq_true, if_false]

/-- An ID mark starts the collection, with the CRC that a field behind that mark starts from. -/
theorem idByte_of_mark (hhunting : s.search.amFound = false) (hmark : s.detected b [0xFE] = some 0xFE) :
    s.idByte b =
      { s.detect b [0xFE] with
        regs.crc := crc16 (crcPrefix s.medium.density 0xFE)
        search := { (s.detect b [0xFE]).search with amFound := true, idCount := 0 } } := by
  simp only [State.idByte, State.idHunt, hhunting, hmark, Bool.false_eq_true, if_false, ← markPrefix_eq_crcPrefix]
  rfl

/-- A byte behind an ID mark goes to the buffer, the first four into the CRC, and the sixth ends the collection. -/
theorem idByte_of_found (hfound : s.search.amFound = true) :
    s.idByte b =
      { s with
        regs.crc := if s.search.idCount < 4 then crcStep s.regs.crc b else s.regs.crc
        search :=
          { s.search with
            idBuf := s.search.idBuf.set s.search.idCount b
            idCount := s.search.idCount + 1
            amFound := decide (s.search.idCount ≠ 5) } } := by
  have hstill : (if s.search.idCount + 1 = 6 then false else s.search.amFound) = decide (s.search.idCount ≠ 5) := by
    simp [hfound]
  rw [State.idByte, if_pos hfound, State.idCollect, hstill]
  rfl

theorem idResult_of_last (hfound : s.search.amFound = true) (hlast : s.search.idCount = 5) :
    s.idResult b =
      some (decide ((s.idByte b).regs.crc
        = crcOfBytes (s.idByte b).search.idBuf.crcHi (s.idByte b).search.idBuf.crcLo)) := by
  rw [State.idByte, if_pos hfound]
  exact if_pos ⟨hfound, congrArg (· + 1) hlast⟩

theorem idResult_of_not_last (hnotLast : s.search.idCount ≠ 5) : s.idResult b = none :=
  if_neg fun h => hnotLast (Nat.succ.inj h.2)

end Collector

/-! A sync field and an ID field at the ID collector. -/

theorem fedId_append (s : State) (bs cs : List Byte) : fedId s (bs ++ cs) = fedId (fedId s bs) cs := List.foldl_append

/-- Only 0xFE is returned by the detector, so any other byte changes nothing but the detector. -/
theorem detected_of_ne {s : State} {b : Byte} (hb : b ≠ 0xFE) : s.detected b [0xFE] = none := by
  refine Option.eq_none_iff_forall_ne_some.mpr fun mark hmark => ?_
  obtain ⟨-, hmem⟩ := Search.detect_mark hmark
  exact hb (List.mem_singleton.mp hmem)

theorem fedDetector_amFound (d : Density) (marks : List Byte) (q : Search) (bs : List Byte) :
    (fedDetector d marks q bs).amFound = q.amFound := by
  induction bs generalizing q with
  | nil => rfl
  | cons b bs ih =>
    have hfirst : (q.detect d b marks).1.amFound = q.amFound := by rw [Search.detect_frame]
    exact (ih _).trans hfirst

/-- While no ID mark comes, the collector is the detector. -/
theorem fedId_of_no_mark {s : State} {bs : List Byte} (hhunting : s.search.amFound = false)
    (hbs : ∀ b ∈ bs, b ≠ 0xFE) :
    fedId s bs = { s with search := fedDetector s.medium.density [0xFE] s.search bs } := by
  induction bs generalizing s with
  | nil => rfl
  | cons b bs ih =>
    obtain ⟨hb, hrest⟩ := List.forall_mem_cons.mp hbs
    have hstill : (s.detect b [0xFE]).search.amFound = false :=
      (fedDetector_amFound s.medium.density [0xFE] s.search [b]).trans hhunting
    have hfirst : s.idByte b = s.detect b [0xFE] := idByte_of_none hhunting (detected_of_ne hb)
    exact (congrArg (fedId · bs) hfirst).trans (ih hstill hrest)

/-- The collection of an ID field has just started, on the medium `m`. -/
structure CollectionStarted (m : Medium) (s : State) : Prop where
  amFound : s.search.amFound = true
  idCount : s.search.idCount = 0
  medium : s.medium = m
  crc : s.regs.crc = crc16 (crcPrefix m.density 0xFE)

/-- A mark that the detector finds behind bytes other than 0xFE starts the collection. -/
theorem fedId_of_mark {s : State} {bs : List Byte} (hhunting : s.search.amFound = false) (hbs : ∀ b ∈ bs, b ≠ 0xFE)
    (hmark : ((fedDetector s.medium.density [0xFE] s.search bs).detect s.medium.density 0xFE [0xFE]).2 = some 0xFE) :
    CollectionStarted s.medium (fedId s (bs ++ [0xFE])) := by
  have hlast := idByte_of_mark (s := { s with search := fedDetector s.medium.density [0xFE] s.search bs })
    ((fedDetector_amFound _ _ _ _).trans hhunting) hmark
  have hall : fedId s (bs ++ [0xFE]) = _ :=
    (fedId_append s bs [0xFE]).trans ((congrArg (fedId · [0xFE]) (fedId_of_no_mark hhunting hbs)).trans hlast)
  rw [hall]
  exact ⟨rfl, rfl, rfl, rfl⟩

/-- What stands before the mark of a record holds no 0xFE, and leads the detector to the mark from any state. -/
theorem markField_leads (d : Density) :
    ∃ bs, markField d 0xFE = bs ++ [0xFE] ∧ (∀ b ∈ bs, b ≠ 0xFE)
      ∧ ∀ q : Search, ((fedDetector d [0xFE] q bs).detect d 0xFE [0xFE]).2 = some 0xFE := by
  cases d with
  | mfm =>
    exact ⟨List.replicate 12 0x00 ++ [0xA1, 0xA1, 0xA1], rfl, by decide,
      fun q => detect_after_mfm_sync q (by decide) (by decide) (by decide) (by decide)⟩
  | fm =>
    exact ⟨List.replicate 6 0x00, rfl, by decide,
      fun q => detect_after_fm_sync q (by decide) (by decide) (by decide)⟩

theorem fedId_markField {s : State} (hhunting : s.search.amFound = false) :
    CollectionStarted s.medium (fedId s (markField s.medium.density 0xFE)) := by
  obtain ⟨bs, hfield, hbs, hmark⟩ := markField_leads s.medium.density
  rw [hfield]
  exact fedId_of_mark hhunting hbs (hmark s.search)

/-- The state after the first five bytes of an ID field: four bytes in the CRC, five in the buffer. -/
theorem fedId_five {s : State} (hfound : s.search.amFound = true) (hcount : s.search.idCount = 0)
    (track side sector code hi : Byte) :
    fedId s [track, side, sector, code, hi] =
      { s with
        regs.crc := crcFold s.regs.crc [track, side, sector, code]
        search :=
          { s.search with
            idBuf :=
              { track := track, side := side, sector := sector, lengthCode := code, crcHi := hi,
                crcLo := s.search.idBuf.crcLo }
            idCount := 5
            amFound := true } } := by
  simp [fedId, idByte_of_found, hfound, hcount, IdField.set, crcFold]

/-- The sixth byte answers whether the two CRC bytes are the CRC of the mark and the first four. -/
theorem idResult_after_five {s : State} (hfound : s.search.amFound = true) (hcount : s.search.idCount = 0)
    (track side sector code hi lo : Byte) :
    (fedId s [track, side, sector, code, hi]).idResult lo
      = some (decide (crcFold s.regs.crc [track, side, sector, code] = crcOfBytes hi lo)) := by
  rw [fedId_five hfound hcount, idResult_of_last, idByte_of_found]
  all_goals rfl

/-- The sixth byte ends the collection; the field stands in the buffer whole. -/
theorem fedId_six {s : State} (hfound : s.search.amFound = true) (hcount : s.search.idCount = 0)
    (track side sector code hi lo : Byte) :
    (fedId s [track, side, sector, code, hi, lo]).search =
      { s.search with
        idBuf := { track := track, side := side, sector := sector, lengthCode := code, crcHi := hi, crcLo := lo }
        idCount := 6
        amFound := false } := by
  change ((fedId s [track, side, sector, code, hi]).idByte lo).search = _
  rw [fedId_five hfound hcount, idByte_of_found]
  all_goals rfl

/-- The CRC that the medium stores behind an ID body is the one the collector has run over it. -/
theorem idField_checks {s : State} (hcrc : s.regs.crc = crc16 (crcPrefix s.medium.density 0xFE)) (body : List Byte) :
    crcFold s.regs.crc body =
      crcOfBytes (crcHiByte (crc16 (markPrefix s.medium.density 0xFE ++ body)))
        (crcLoByte (crc16 (markPrefix s.medium.density 0xFE ++ body))) := by
  rw [crcOfBytes_bytes, hcrc, crc16_append, markPrefix_eq_crcPrefix]

/-- Settles O44: the collector byte by byte, then over a sync field and over an ID field. -/
theorem ownIdFieldsCheck : Obligations.OwnIdFieldsCheck := by
  refine ⟨fun s b hhunting => ?hunt, fun s b hfound => ?collect, fun s hhunting => ?sync,
    fun s t sd r hfound hcount hcrc => ?field⟩
  case hunt => exact ⟨idResult_of_hunting hhunting, idByte_of_mark hhunting, idByte_of_none hhunting⟩
  case collect => exact ⟨idByte_of_found hfound, idResult_of_last hfound, idResult_of_not_last⟩
  case sync =>
    obtain ⟨hfound, hcount, hmedium, hcrc⟩ := fedId_markField hhunting
    exact ⟨hfound, hcount, hmedium, hcrc⟩
  case field =>
    intro field u done
    have hresult : u.idResult (field.getD 5 0) = some true :=
      (idResult_after_five hfound hcount _ _ _ _ _ _).trans
        (congrArg some (decide_eq_true (idField_checks hcrc (idBody s.medium.geom t sd r))))
    have hdone : done.search = _ := fedId_six hfound hcount _ _ _ _ _ _
    rw [hdone]
    exact ⟨rfl, hresult, rfl, rfl, rfl, rfl, rfl⟩

end Sys2Proof.Proofs

/-! PROOFS. The phases of Type I, one equation per branch (41_type1 R202 to R211). -/

namespace Sys2Proof.Proofs

open Sys2Proof.Machine Sys2Proof.Claims

/-! A phase as step 4 of a tick (40_common R165, R167). -/

section InPhase

variable {s : State} {n : CmdName} {e : TickEvents}

/-- In a phase of the command in flight, step 4 is the handler. -/
theorem commandStep_of_inPhase {p : Phase} (dt : Time) (h : s.InPhase n p e) :
    s.commandStep dt e = s.handler n dt e := by
  obtain ⟨hbusy, hname, -, hquiet⟩ := h
  exact commandStep_of_busy hquiet hbusy hname

theorem commandStep_t1Step (dt : Time) (h : s.InPhase n .t1Step e) : s.commandStep dt e = s.t1StepPhase n dt := by
  rw [commandStep_of_inPhase dt h]
  obtain ⟨-, -, hphase, -⟩ := h
  simp only [State.handler, hphase]

theorem commandStep_t1Settle (dt : Time) (h : s.InPhase n .t1Settle e) : s.commandStep dt e = s.settlePhase dt := by
  rw [commandStep_of_inPhase dt h]
  obtain ⟨-, -, hphase, -⟩ := h
  simp only [State.handler, hphase]

theorem commandStep_t1WaitHlt (dt : Time) (h : s.InPhase n .t1WaitHlt e) : s.commandStep dt e = s.verifyGate := by
  rw [commandStep_of_inPhase dt h]
  obtain ⟨-, -, hphase, -⟩ := h
  simp only [State.handler, hphase]

theorem commandStep_t1Verify (dt : Time) (h : s.InPhase n .t1Verify e) : s.commandStep dt e = s.verifyPhase e := by
  rw [commandStep_of_inPhase dt h]
  obtain ⟨-, -, hphase, -⟩ := h
  simp only [State.handler, hphase]

end InPhase

/-! The physical step (41_type1 R207). -/

/-- Outward the clamp at cylinder 0 is the truncated subtraction. -/
theorem physStep_out (s : State) : s.physStep false = { s with head.currentTrack := s.head.currentTrack - 1 } := by
  rcases s.physStep_cases false with ⟨hdir, -⟩ | ⟨hdir, -⟩ | ⟨-, ht⟩
  · cases hdir
  · cases hdir
  · exact ht

/-- Inward the clamp is the last cylinder of the medium. -/
theorem physStep_in (s : State) :
    s.physStep true =
      { s with
        head.currentTrack :=
          if s.head.currentTrack + 1 < s.medium.geom.cyl then s.head.currentTrack + 1 else s.head.currentTrack } := by
  rcases s.physStep_cases true with ⟨-, hinside, ht⟩ | ⟨-, hend, ht⟩ | ⟨hdir, -⟩
  · rw [ht, if_pos hinside]
  · rw [ht, if_neg hend]
  · cases hdir

/-! RESTORE (41_type1 R202). -/

section Restore

variable {s : State} {dt : Time}

theorem restorePhase_at_track0 (htrack : s.head.currentTrack = 0) :
    s.restorePhase dt = State.actionDone { s with regs.tr := 0 } := by
  simp only [State.restorePhase, State.restoreStepping, htrack, if_true]

theorem restorePhase_waits (htrack : s.head.currentTrack ≠ 0) (hwait : s.timers.step + dt < s.stepInterval) :
    s.restorePhase dt = { s with timers.step := s.timers.step + dt } := by
  simp only [State.restorePhase, State.restoreStepping, if_neg htrack, if_neg (not_le.mpr hwait)]

/-- At the interval the head moves out one cylinder, and the action ends if that is cylinder 0. -/
theorem restorePhase_steps (htrack : s.head.currentTrack ≠ 0) (hdue : s.stepInterval ≤ s.timers.step + dt) :
    s.restorePhase dt =
      let t : State := { s with timers.step := 0, head.currentTrack := s.head.currentTrack - 1 }
      if t.head.currentTrack = 0 then State.actionDone { t with regs.tr := 0 } else t := by
  simp only [State.restorePhase, State.restoreStepping, if_neg htrack, if_pos hdue, physStep_out]

end Restore

/-- Settles O25: the branches of RESTORE's handler, and of its step the arrival at cylinder 0. -/
theorem restoreStepsOutToTrackZero : Obligations.RestoreStepsOutToTrackZero := by
  intro s dt e hphase interval
  have hstep : s.commandStep dt e = s.restorePhase dt := commandStep_t1Step dt hphase
  rw [hstep]
  refine ⟨restorePhase_at_track0, restorePhase_waits, fun htrack hdue => ?arrives, fun htrack hdue => ?steps⟩
  case arrives =>
    have hsteps := restorePhase_steps (by rw [htrack]; exact one_ne_zero) hdue
    simpa only [htrack, Nat.sub_self, if_true] using hsteps
  case steps => exact (restorePhase_steps (by omega) hdue).trans (if_neg (by dsimp only; omega))

/-! SEEK (41_type1 R203). -/

section Seek

variable {s : State} {dt : Time}

theorem seekPhase_at_target (htarget : s.regs.tr = s.regs.dr) : s.seekPhase dt = s.actionDone := by
  simp only [State.seekPhase, State.seekStepping, htarget, if_true]

theorem seekPhase_waits (htarget : s.regs.tr ≠ s.regs.dr) (hwait : s.timers.step + dt < s.stepInterval) :
    s.seekPhase dt = { s with timers.step := s.timers.step + dt } := by
  simp only [State.seekPhase, State.seekStepping, if_neg htarget, if_neg (not_le.mpr hwait)]

/-- `TR` below `DR` counts up, and the head follows inward. -/
theorem seekPhase_steps_in (hbelow : s.regs.tr < s.regs.dr) (hdue : s.stepInterval ≤ s.timers.step + dt) :
    s.seekPhase dt =
      let t : State :=
        { s with
          timers.step := 0, pins.direction := true, regs.tr := s.regs.tr + 1
          head.currentTrack :=
            if s.head.currentTrack + 1 < s.medium.geom.cyl then s.head.currentTrack + 1 else s.head.currentTrack }
      if t.regs.tr = t.regs.dr then t.actionDone else t := by
  simp only [State.seekPhase, State.seekStepping, if_neg (BitVec.ne_of_lt hbelow), if_pos hdue, if_pos hbelow,
    physStep_in]

/-- `TR` above `DR` counts down, and the head follows outward. -/
theorem seekPhase_steps_out (habove : s.regs.dr < s.regs.tr) (hdue : s.stepInterval ≤ s.timers.step + dt) :
    s.seekPhase dt =
      let t : State :=
        { s with
          timers.step := 0, pins.direction := false, regs.tr := s.regs.tr - 1
          head.currentTrack := s.head.currentTrack - 1 }
      if t.regs.tr = t.regs.dr then t.actionDone else t := by
  simp only [State.seekPhase, State.seekStepping, if_neg (BitVec.ne_of_lt habove).symm, if_pos hdue,
    if_neg (BitVec.not_lt.mpr (BitVec.le_of_lt habove)), physStep_out]

end Seek

/-- Settles O26: the branches of SEEK's handler; on the way to `DR`, `TR` is short of the end of its range. -/
theorem seekStepsTowardTheDataRegister : Obligations.SeekStepsTowardTheDataRegister := by
  intro s dt e hphase interval
  have hstep : s.commandStep dt e = s.seekPhase dt := commandStep_t1Step dt hphase
  rw [hstep]
  refine ⟨seekPhase_at_target, seekPhase_waits, fun hbelow hdue => ⟨?noWrapUp, seekPhase_steps_in hbelow hdue⟩,
    fun habove hdue => ⟨?noWrapDown, seekPhase_steps_out habove hdue⟩⟩
  case noWrapUp => dsimp only; bv_omega
  case noWrapDown => dsimp only; bv_omega

/-! STEP, STEP-IN and STEP-OUT (41_type1 R204 to R206). -/

section StepOnce

variable {s : State} {dt : Time}

theorem stepOnce_waits (hwait : s.timers.step + dt < s.stepInterval) :
    s.stepOnce dt = { s with timers.step := s.timers.step + dt } := if_neg (not_le.mpr hwait)

/-- At the end it would step past, the head and `TR` stay. -/
theorem stepOnce_clamped (hdue : s.stepInterval ≤ s.timers.step + dt) (hclamped : s.clamped = true) :
    s.stepOnce dt = State.actionDone { s with timers.step := 0 } :=
  (if_pos hdue).trans (if_pos hclamped)

theorem stepOnce_moves (hdue : s.stepInterval ≤ s.timers.step + dt) (hfree : s.clamped = false) :
    s.stepOnce dt =
      (State.physStep s.pins.direction { s with timers.step := 0 }).trackUpdate.actionDone :=
  (if_pos hdue).trans (if_neg (Bool.eq_false_iff.mp hfree))

theorem clamped_out (hdir : s.pins.direction = false) : s.clamped = decide (s.head.currentTrack = 0) := by
  simp [State.clamped, hdir]

theorem clamped_in (hdir : s.pins.direction = true) (hmedium : s.head.currentTrack < s.medium.geom.cyl) :
    s.clamped = decide (s.head.currentTrack + 1 = s.medium.geom.cyl) := by
  simp only [State.clamped, hdir, Bool.not_true, Bool.false_and, Bool.false_or, Bool.true_and, decide_eq_decide]
  omega

theorem trackUpdate_eq (s : State) :
    s.trackUpdate =
      { s with
        regs.tr :=
          if s.cmd.flags.trackUpdate then (if s.pins.direction then s.regs.tr + 1 else s.regs.tr + 255)
          else s.regs.tr } := by
  have hdown : s.regs.tr - 1 = s.regs.tr + 255 := by bv_omega
  unfold State.trackUpdate
  rw [hdown]
  split <;> rfl

end StepOnce

theorem t1StepPhase_stepFamily {n : CmdName} (hn : n = .step ∨ n = .stepIn ∨ n = .stepOut) (dt : Time) (s : State) :
    s.t1StepPhase n dt = s.stepOnce dt := by
  rcases hn with rfl | rfl | rfl <;> rfl

/-- Settles O27: the three commands share `step_once`; the head is clamped at one end in each direction. -/
theorem stepFamilyStepsOnce : Obligations.StepFamilyStepsOnce := by
  intro s dt e n hn hphase hmedium interval
  rw [commandStep_t1Step dt hphase, t1StepPhase_stepFamily hn]
  refine ⟨stepOnce_waits, fun hdue hdir htrack => ?firstCylinder, fun hdue hdir htrack => ?lastCylinder,
    fun hdue hdir htrack => ?outward, fun hdue hdir htrack => ?inward⟩
  case firstCylinder => exact stepOnce_clamped hdue ((clamped_out hdir).trans (decide_eq_true htrack))
  case lastCylinder => exact stepOnce_clamped hdue ((clamped_in hdir hmedium).trans (decide_eq_true htrack))
  case outward =>
    rw [stepOnce_moves hdue ((clamped_out hdir).trans (decide_eq_false htrack)), hdir, physStep_out, trackUpdate_eq]
    simp only [hdir, Bool.false_eq_true, if_false]
  case inward =>
    rw [stepOnce_moves hdue ((clamped_in hdir hmedium).trans (decide_eq_false (by omega))), hdir, physStep_in,
      trackUpdate_eq]
    simp only [hdir, htrack, if_true]

/-! The end of the stepping phase, the settle wait and the HLT gate (41_type1 R208 to R210). -/

/-- With verify the head is loaded and its settling starts (R208). -/
theorem actionDone_of_verify {s : State} (hverify : s.cmd.flags.verify = true) :
    s.actionDone =
      { (State.hldSet { s with prog.commandActionDone := true }) with timers.settle := 0, cmd.phase := .t1Settle } :=
  (s.actionDone_cases.resolve_right fun ⟨hno, _⟩ => absurd (hverify.symm.trans hno) nofun).2

/-- Without verify the command ends (R208). -/
theorem actionDone_of_no_verify {s : State} (hverify : s.cmd.flags.verify = false) :
    s.actionDone = State.finish { s with prog.commandActionDone := true } :=
  (s.actionDone_cases.resolve_left fun ⟨hyes, _⟩ => absurd (hverify.symm.trans hyes) nofun).2

/-- Settles O28: `finish()` and `hld_set()` field by field, and the two waits. -/
theorem actionDoneEndsOrStartsTheVerify : Obligations.ActionDoneEndsOrStartsTheVerify := by
  refine ⟨fun s => rfl, fun s hverify => actionDone_of_no_verify hverify, fun s hverify => ?verify,
    fun s dt e n hphase => commandStep_t1Settle dt hphase, fun s dt e n hphase => commandStep_t1WaitHlt dt hphase⟩
  case verify => rw [actionDone_of_verify hverify, hldSet_eq]

/-! The verify search (41_type1 R211). -/

section Verify

variable {s : State} {e : TickEvents}

theorem verifyPhase_no_byte (hbyte : e.be = false) : s.verifyPhase e = s.searchWindow e.ie := by
  simp [State.verifyPhase, hbyte]

/-- An ID field whose track byte is `TR`: its CRC decides. -/
theorem verifyPhase_own_track {ok : Bool} (hbyte : e.be = true) (hfield : s.idResult e.b = some ok)
    (htrack : (s.idByte e.b).search.idBuf.track = s.regs.tr) :
    s.verifyPhase e =
      if ok then (s.idByte e.b).finish
      else State.searchWindow e.ie { s.idByte e.b with latched.crcError := true } := by
  have htr : (s.idByte e.b).search.idBuf.track = (s.idByte e.b).regs.tr := htrack.trans (s.idByte_regs e.b).1.symm
  simp only [State.verifyPhase, hbyte, if_true, hfield, if_pos htr]

/-- No ID field completed, or one of another track: the byte is taken and the window counts. -/
theorem verifyPhase_other (hbyte : e.be = true)
    (hother : s.idResult e.b = none ∨ (s.idByte e.b).search.idBuf.track ≠ s.regs.tr) :
    s.verifyPhase e = (s.idByte e.b).searchWindow e.ie := by
  simp only [State.verifyPhase, hbyte, if_true]
  cases hfield : s.idResult e.b with
  | none => rfl
  | some ok =>
    have htrack : (s.idByte e.b).search.idBuf.track ≠ s.regs.tr := hother.resolve_left (by rw [hfield]; nofun)
    have htr : (s.idByte e.b).search.idBuf.track ≠ (s.idByte e.b).regs.tr := by rwa [(s.idByte_regs e.b).1]
    exact if_neg htr

end Verify

/-- Settles O29: no byte, an ID field of track `TR` with either CRC result, and the rest. -/
theorem verifyComparesTheTrackByte : Obligations.VerifyComparesTheTrackByte := by
  intro s dt e n hphase
  rw [commandStep_t1Verify dt hphase]
  exact ⟨verifyPhase_no_byte, fun hbyte => ⟨verifyPhase_own_track hbyte, verifyPhase_own_track hbyte,
    verifyPhase_other hbyte⟩⟩

end Sys2Proof.Proofs

/-! PROOFS. What moves the head, over the whole machine (41_type1 R207). -/

namespace Sys2Proof.Proofs

open Sys2Proof.Machine Sys2Proof.Claims

/-- No command byte moves the head: a Type I byte only starts the stepping phase (41_type1 R200). -/
theorem exec_head {i : Instr} {s t : State} (h : exec i s = .next t) : t.head = s.head := by
  rcases exec_cases i s with ⟨-, f, dir, hI⟩ | ⟨-, f, hII⟩ | ⟨c, -, hIV⟩
  · obtain rfl := Host.Outcome.next.inj (hI.symm.trans h)
    rcases s.writeTypeI_cases (encode i) (commandName i) f dir with ⟨-, ht⟩ | ⟨-, ht⟩ <;> simp [ht]
  · obtain rfl := Host.Outcome.next.inj (hII.symm.trans h)
    rcases s.writeTypeIIorIII_cases (encode i) (commandName i) f with ⟨-, ht⟩ | ⟨-, -, ht⟩ | ⟨-, -, ht⟩ <;> simp [ht]
  · obtain rfl := Host.Outcome.next.inj (hIV.symm.trans h)
    obtain ⟨-, hhead, -, -⟩ := forceInterrupt_frame c s
    exact hhead

theorem setReady_head (level : Bool) (s : State) : (s.setReady level).head = s.head := by
  unfold State.setReady
  rcases State.readyConditions_cases s.pins.ready level { s with pins.ready := level } with ⟨-, ht⟩ | ⟨-, ht⟩ <;> rw [ht]
  · exact State.fireCondition_head _
  · rfl

/-- Rotation turns the disk under the head and moves no head (60_exceptions R350). -/
theorem tickHead_currentTrack (dt : Time) (s : State) :
    (s.tickHead dt).head.currentTrack = s.head.currentTrack := by rw [State.tickHead_eq]

/-- Steps 5 and the refresh leave the head where step 4 left it. -/
theorem tick_head (dt : Time) (s : State) :
    (s.tick dt).head = ((s.tickHead dt).commandStep dt (s.tickEvents dt)).head := by simp [State.tick]

/-- A tick leaves the cylinder alone, or it is a tick of a stepping phase that moves it by one (41_type1 R207). -/
theorem tick_moves (dt : Time) (s : State) :
    (s.tick dt).head.currentTrack = s.head.currentTrack
      ∨ (s.prog.commandDone = false ∧ s.cmd.phase = .t1Step
        ∧ ((s.tick dt).head.currentTrack = s.head.currentTrack + 1
          ∨ (s.tick dt).head.currentTrack + 1 = s.head.currentTrack)) := by
  rw [tick_head, ← tickHead_currentTrack dt s]
  rcases (s.tickHead dt).commandStep_cases dt (s.tickEvents dt)
    with ⟨-, -, ht⟩ | ⟨-, -, ht⟩ | ⟨-, -, -, ht⟩ | ⟨-, hbusy, n, -, ht⟩ <;> rw [ht]
  · exact .inl (congrArg Head.currentTrack (State.fireCondition_head _))
  · exact .inl rfl
  · exact .inl rfl
  · by_cases hphase : (s.tickHead dt).cmd.phase = .t1Step
    · rcases handler_movesOneCylinder n dt (s.tickEvents dt) (s.tickHead dt) with hstay | ⟨hin, -⟩ | hout
      · exact .inl hstay
      · exact .inr ⟨by rwa [tickHead_prog] at hbusy, by rwa [tickHead_cmd] at hphase, .inl hin⟩
      · exact .inr ⟨by rwa [tickHead_prog] at hbusy, by rwa [tickHead_cmd] at hphase, .inr hout⟩
    · exact .inl (handler_keeps_currentTrack n dt _ hphase)

/-- Settles O54: of the calls only a reset and a tick can write `current_track`. -/
theorem onlySteppingMovesTheHead : Obligations.OnlySteppingMovesTheHead := by
  intro s t hstep hmoved
  rcases step_cases hstep with ⟨-, rfl⟩ | ⟨c, rest, hcalls, hcall⟩
  · exact absurd rfl hmoved
  · have unmoved (hhead : t.head = s.head) : False := hmoved (congrArg Head.currentTrack hhead)
    rcases runCall_cases hcall with ⟨p, rfl, -⟩ | ⟨v, -, hexec⟩ | ⟨p, v, -, -, rfl⟩ | ⟨p, -, rfl⟩
      | ⟨dt, rfl, -, -, -, rfl⟩ | ⟨level, -, rfl⟩ | ⟨-, rfl⟩
    · exact .inl ⟨p, rest, hcalls⟩
    · exact (unmoved (exec_head (s := s.takeCall rest) hexec)).elim
    · exact (unmoved (writePort_sameCore p v (s.takeCall rest)).head).elim
    · exact (unmoved (readPort_sameCore p (s.takeCall rest)).head).elim
    · obtain ⟨hbusy, hphase, hone⟩ := (tick_moves dt (s.takeCall rest)).resolve_left hmoved
      exact .inr ⟨dt, rest, hcalls, hbusy, hphase, hone⟩
    · exact (unmoved (setReady_head level (s.takeCall rest))).elim
    · exact (unmoved rfl).elim

end Sys2Proof.Proofs

/-! PROOFS. RESTORE arrives at track 0, and when (41_type1 R202, R214): a tick counts the step timer, moves the head out,
or ends the action. -/

namespace Sys2Proof.Proofs

open Sys2Proof.Machine Sys2Proof.Claims

/-! Ticks as pending calls (40_common R152). -/

theorem withTicks_sameCore (n : Nat) (dt : Time) (s : State) : SameCore s (s.withTicks n dt) :=
  ⟨rfl, rfl, rfl, rfl, rfl, rfl⟩

/-- A state whose pending calls are already the ticks. -/
theorem withTicks_self {n : Nat} {dt : Time} {s : State} (h : s.calls = List.replicate n (.advance dt)) :
    s.withTicks n dt = s := by rw [State.withTicks, ← h]

/-- No tick touches the pending calls (log 1). -/
theorem tick_calls {dt : Time} {s : State} (hh : s.prog.commandDone = false → s.hasHandler = true) :
    (s.tick dt).calls = s.calls := by
  have hframe := commandStep_frame dt (s.tickEvents dt) (s := s.tickHead dt)
    (by rwa [tickHead_prog, tickHead_hasHandler])
  have hhead : (s.tickHead dt).calls = s.calls := by simp [State.tickHead]
  simp only [State.tick, State.statusRefresh_calls, State.hldIdleStep_calls, hframe.calls, hhead]

theorem run_of_step {n : Nat} {s u : State} (h : step s = .next u) :
    Sys2Proof.core.run (n + 1) s = Sys2Proof.core.run n u := by
  simp only [Host.Core.run, show Sys2Proof.core.step s = .next u from h]

/-! RESTORE on its way (41_type1 R202). -/

/-- RESTORE is stepping with no armed index condition, on cylinder `N` with `x` on its step timer, in a state that takes
ticks of `dt`; `interval` is its step interval. -/
structure Restoring (dt interval : Time) (N : Nat) (x : Time) (s : State) : Prop where
  busy : s.prog.commandDone = false
  name : s.cmd.cmdName = some .restore
  phase : s.cmd.phase = .t1Step
  unarmed : s.cmd.armed.i2 = false
  interval : s.stepInterval = interval
  track : s.head.currentTrack = N
  timer : s.timers.step = x
  onMedium : N < s.medium.geom.cyl
  tick : 0 < dt ∧ dt ≤ Config.byteTime s.medium.density

/-- The head and `TR` are at 0 and the action is done (41_type1 R202, R208). -/
structure Arrived (s : State) : Prop where
  track : s.head.currentTrack = 0
  tr : s.regs.tr = 0
  done : s.prog.commandActionDone = true

section Restoring

variable {dt interval x : Time} {N : Nat} {s t : State}

/-- Only the command, the BUSY flag, the cylinder, the step timer and the medium matter. -/
theorem Restoring.congr (h : Restoring dt interval N x s) (hcmd : t.cmd = s.cmd) (hprog : t.prog = s.prog)
    (htrack : t.head.currentTrack = s.head.currentTrack) (htimer : t.timers.step = s.timers.step)
    (hmedium : t.medium = s.medium) : Restoring dt interval N x t where
  busy := by rw [hprog]; exact h.busy
  name := by rw [hcmd]; exact h.name
  phase := by rw [hcmd]; exact h.phase
  unarmed := by rw [hcmd]; exact h.unarmed
  interval := by rw [State.stepInterval, hcmd]; exact h.interval
  track := htrack.trans h.track
  timer := htimer.trans h.timer
  onMedium := by rw [hmedium]; exact h.onMedium
  tick := by rw [hmedium]; exact h.tick

theorem Restoring.of_sameCore (h : Restoring dt interval N x s) (hcore : SameCore s t) : Restoring dt interval N x t :=
  h.congr hcore.cmd hcore.prog (by rw [hcore.head]) (by rw [hcore.timers]) hcore.medium

theorem Restoring.hasHandler (h : Restoring dt interval N x s) : s.hasHandler = true := by
  simp only [State.hasHandler, h.name, h.phase]
  rfl

/-- A tick is accepted and runs the five steps (40_common R152). -/
theorem Restoring.advance_eq (h : Restoring dt interval N x s) : s.advance dt = .next (s.tick dt) :=
  State.advance_eq h.tick (h.track ▸ h.onMedium) fun _ => h.hasHandler

/-- Steps 1 to 3 of a tick leave the stepping alone. -/
theorem Restoring.tickHead (h : Restoring dt interval N x s) : Restoring dt interval N x (s.tickHead dt) :=
  h.congr (tickHead_cmd dt s) (tickHead_prog dt s) (tickHead_currentTrack dt s) (by rw [State.tickHead_eq])
    (tickHead_medium dt s)

/-- Step 5 and the refresh leave the stepping alone. -/
theorem Restoring.tickTail (h : Restoring dt interval N x s) :
    Restoring dt interval N x (s.hldIdleStep dt).statusRefresh :=
  h.congr (by simp) (by simp) (by simp) (by rw [State.statusRefresh_timers, State.hldIdleStep_eq]) (by simp)

theorem Arrived.tickTail (h : Arrived s) : Arrived (s.hldIdleStep dt).statusRefresh := by
  obtain ⟨htrack, htr, hdone⟩ := h
  exact ⟨by simpa using htrack, by simpa using htr, by simpa using hdone⟩

/-- `action_done()` on cylinder 0 with `TR = 0` is the arrival (41_type1 R208). -/
theorem arrived_actionDone (htrack : s.head.currentTrack = 0) (htr : s.regs.tr = 0) : Arrived s.actionDone where
  track := by rwa [State.actionDone_head]
  tr := by rwa [State.actionDone_regs]
  done := by rcases s.actionDone_cases with ⟨-, ht⟩ | ⟨-, ht⟩ <;> simp [ht]

/-- Step 4 of a tick is RESTORE's handler (40_common R167). -/
theorem Restoring.tick_eq (h : Restoring dt interval N x s) :
    s.tick dt = (((s.tickHead dt).restorePhase dt).hldIdleStep dt).statusRefresh := by
  have hhead := h.tickHead
  have hphase : (s.tickHead dt).InPhase .restore .t1Step (s.tickEvents dt) :=
    ⟨hhead.busy, hhead.name, hhead.phase, fun hindex => absurd (hindex.2.symm.trans hhead.unarmed) nofun⟩
  rw [State.tick, commandStep_t1Step dt hphase]
  rfl

/-- Short of the interval a tick counts the step timer. -/
theorem Restoring.tick_waits (h : Restoring dt interval N x s) (hN : N ≠ 0) (hwait : x + dt < interval) :
    Restoring dt interval N (x + dt) (s.tick dt) := by
  have hhead := h.tickHead
  have hphase := restorePhase_waits (s := s.tickHead dt) (dt := dt) (hhead.track ▸ hN)
    (by rwa [hhead.timer, hhead.interval])
  rw [h.tick_eq, hphase]
  exact Restoring.tickTail { hhead with timer := congrArg (· + dt) hhead.timer }

/-- At the interval a tick moves the head out and starts the timer afresh. -/
theorem Restoring.tick_steps (h : Restoring dt interval (N + 2) x s) (hdue : interval ≤ x + dt) :
    Restoring dt interval (N + 1) 0 (s.tick dt) := by
  have hhead := h.tickHead
  have hphase := restorePhase_steps (s := s.tickHead dt) (dt := dt) (by rw [hhead.track]; omega)
    (by rwa [hhead.timer, hhead.interval])
  have htrack : (s.tickHead dt).head.currentTrack - 1 = N + 1 := by rw [hhead.track]; omega
  rw [h.tick_eq, hphase]
  dsimp only
  rw [if_neg (by omega)]
  exact Restoring.tickTail
    { hhead with track := htrack, timer := rfl, onMedium := Nat.lt_of_succ_lt hhead.onMedium }

/-- At the interval on cylinder 1 the head arrives. -/
theorem Restoring.tick_arrives (h : Restoring dt interval 1 x s) (hdue : interval ≤ x + dt) : Arrived (s.tick dt) := by
  have hhead := h.tickHead
  have hphase := restorePhase_steps (s := s.tickHead dt) (dt := dt) (by rw [hhead.track]; exact one_ne_zero)
    (by rwa [hhead.timer, hhead.interval])
  have htrack : (s.tickHead dt).head.currentTrack - 1 = 0 := by rw [hhead.track]
  rw [h.tick_eq, hphase]
  dsimp only
  rw [if_pos htrack]
  exact (arrived_actionDone (s := { s.tickHead dt with timers.step := _, head.currentTrack := _, regs.tr := 0 })
    htrack rfl).tickTail

/-- On cylinder 0 one tick ends the action. -/
theorem Restoring.tick_at_track0 (h : Restoring dt interval 0 x s) : Arrived (s.tick dt) := by
  rw [h.tick_eq, restorePhase_at_track0 h.tickHead.track]
  exact (arrived_actionDone (s := { s.tickHead dt with regs.tr := 0 }) h.tickHead.track rfl).tickTail

end Restoring

/-! How many ticks it takes. -/

/-- After `n` ticks of `dt` RESTORE has arrived. -/
def ArrivesIn (dt : Time) (n : Nat) (s : State) : Prop :=
  ∃ t : State, Sys2Proof.core.run n (s.withTicks n dt) = .next t ∧ Arrived t

/-- Every RESTORE that stands on cylinder `N` with `x` on its step timer arrives after `n` ticks. -/
def RestoreTakes (dt interval : Time) (N : Nat) (x : Time) (n : Nat) : Prop :=
  ∀ s : State, Restoring dt interval N x s → ArrivesIn dt n s

section RestoreTakes

variable {dt interval x : Time} {N n : Nat}

/-- The state of the first of `n + 1` ticks: the call is taken, and the stepping is as it was. -/
theorem Restoring.first_tick {s : State} (h : Restoring dt interval N x s) (n : Nat) :
    ∃ u : State, Restoring dt interval N x u ∧ (u.tick dt).calls = List.replicate n (.advance dt)
      ∧ Sys2Proof.core.run (n + 1) (s.withTicks (n + 1) dt) = Sys2Proof.core.run n (u.tick dt) := by
  let u : State := (s.withTicks (n + 1) dt).takeCall (List.replicate n (.advance dt))
  have hu : Restoring dt interval N x u :=
    (h.of_sameCore (withTicks_sameCore (n + 1) dt s)).of_sameCore (takeCall_sameCore _ _)
  have hstep : step (s.withTicks (n + 1) dt) = .next (u.tick dt) := (step_of_advance rfl).trans hu.advance_eq
  exact ⟨u, hu, tick_calls fun _ => hu.hasHandler, run_of_step hstep⟩

/-- One more tick before: from where a tick leads, `n` ticks are left. -/
theorem RestoreTakes.tick {N' : Nat} {x' : Time} (hrest : RestoreTakes dt interval N' x' n)
    (htick : ∀ s : State, Restoring dt interval N x s → Restoring dt interval N' x' (s.tick dt)) :
    RestoreTakes dt interval N x (n + 1) := by
  intro s hs
  obtain ⟨u, hu, hcalls, hrun⟩ := hs.first_tick n
  obtain ⟨t, ht, harrived⟩ := hrest _ (htick u hu)
  rw [withTicks_self hcalls] at ht
  exact ⟨t, hrun.trans ht, harrived⟩

/-- The last tick. -/
theorem RestoreTakes.last (htick : ∀ s : State, Restoring dt interval N x s → Arrived (s.tick dt)) :
    RestoreTakes dt interval N x 1 := by
  intro s hs
  obtain ⟨u, hu, -, hrun⟩ := hs.first_tick 0
  exact ⟨u.tick dt, hrun, htick u hu⟩

/-- `k` ticks short of the interval only count the step timer. -/
theorem RestoreTakes.wait (hN : N ≠ 0) (k : Nat) (hwait : ∀ j < k, x + (j + 1 : Nat) * dt < interval)
    (hrest : RestoreTakes dt interval N (x + k * dt) n) : RestoreTakes dt interval N x (n + k) := by
  induction k generalizing n with
  | zero => simpa using hrest
  | succ k ih =>
    have hcount : x + (k + 1 : Nat) * dt = x + k * dt + dt := by push_cast; ring
    have hshort : x + k * dt + dt < interval := hcount ▸ hwait k (Nat.lt_succ_self k)
    have hone : RestoreTakes dt interval N (x + k * dt) (n + 1) :=
      (hcount ▸ hrest).tick fun s hs => hs.tick_waits hN hshort
    have hall := ih (fun j hj => hwait j (Nat.lt_succ_of_lt hj)) hone
    rwa [Nat.add_assoc, Nat.add_comm 1 k] at hall

/-- The step timer reaches the interval: `k` is the number of ticks short of it (R214). -/
theorem exists_waits (hdt : 0 < dt) (x interval : Time) :
    ∃ k : Nat, (∀ j < k, x + (j + 1 : Nat) * dt < interval) ∧ interval ≤ x + k * dt + dt := by
  have hreach : ∃ k : Nat, interval ≤ x + (k + 1 : Nat) * dt := by
    obtain ⟨k, hk⟩ := exists_nat_gt ((interval - x) / dt)
    have hk' : interval - x < k * dt := (div_lt_iff₀ hdt).mp hk
    exact ⟨k, by push_cast; linarith⟩
  refine ⟨Nat.find hreach, fun j hj => not_le.mp (Nat.find_min hreach hj), (Nat.find_spec hreach).trans_eq ?_⟩
  push_cast
  ring

/-- Ticks short of the interval last less than the interval. -/
theorem waits_lt {k : Nat} (hx : 0 ≤ x) (hpos : 0 < interval) (hwait : ∀ j < k, x + (j + 1 : Nat) * dt < interval) :
    k * dt < interval := by
  cases k with
  | zero => simpa using hpos
  | succ k => linarith [hwait k (Nat.lt_succ_self k)]

/-- From a cylinder other than 0 RESTORE arrives; each cylinder takes less than an interval and a tick (R214). -/
theorem exists_restoreTakes (hdt : 0 < dt) (hpos : 0 < interval) (N : Nat) (x : Time) :
    ∃ n : Nat, RestoreTakes dt interval (N + 1) x n ∧ (0 ≤ x → n * dt < (N + 1 : Nat) * (interval + dt)) := by
  induction N generalizing x with
  | zero =>
    obtain ⟨k, hwait, hdue⟩ := exists_waits hdt x interval
    have hlast : RestoreTakes dt interval 1 (x + k * dt) 1 := .last fun s hs => hs.tick_arrives hdue
    refine ⟨1 + k, hlast.wait one_ne_zero k hwait, fun hx => ?_⟩
    have hbound := waits_lt hx hpos hwait
    push_cast
    linarith
  | succ N ih =>
    obtain ⟨k, hwait, hdue⟩ := exists_waits hdt x interval
    obtain ⟨n, hrest, hn⟩ := ih 0
    have hstep : RestoreTakes dt interval (N + 2) (x + k * dt) (n + 1) := hrest.tick fun s hs => hs.tick_steps hdue
    refine ⟨n + 1 + k, hstep.wait (Nat.succ_ne_zero _) k hwait, fun hx => ?_⟩
    have hbound := waits_lt hx hpos hwait
    have hn' := hn le_rfl
    push_cast at hn' ⊢
    linarith

end RestoreTakes

/-- A sound state with RESTORE stepping takes its ticks (R101, 10_state R50). -/
theorem restoring_of_sound {s : State} {dt : Time} (hs : s.Sound) (hbusy : s.prog.commandDone = false)
    (hname : s.cmd.cmdName = some .restore) (hphase : s.cmd.phase = .t1Step) (hunarmed : s.cmd.armed.i2 = false)
    (hpos : 0 < dt) (hle : dt ≤ byteMicros s.medium.density) :
    Restoring dt s.stepInterval s.head.currentTrack s.timers.step s :=
  ⟨hbusy, hname, hphase, hunarmed, rfl, rfl, rfl, hs.onMedium, hpos, by rwa [byteTime_eq_byteMicros]⟩

/-- Settles O59: one tick on cylinder 0, and else the count of `exists_restoreTakes`. -/
theorem restoreAlwaysArrives : Obligations.RestoreAlwaysArrives := by
  intro s dt hs hbusy hname hphase hunarmed hpos hle interval
  have hrestoring := restoring_of_sound hs hbusy hname hphase hunarmed hpos hle
  cases htrack : s.head.currentTrack with
  | zero =>
    rw [htrack] at hrestoring
    have hlast : RestoreTakes dt s.stepInterval 0 s.timers.step 1 := .last fun u hu => hu.tick_at_track0
    obtain ⟨t, hrun, harrived⟩ := hlast s hrestoring
    exact ⟨1, t, hrun, harrived.track, harrived.tr, harrived.done, fun _ => rfl, fun h => absurd rfl h⟩
  | succ N =>
    rw [htrack] at hrestoring
    obtain ⟨n, htakes, hbound⟩ := exists_restoreTakes hpos (stepInterval_pos s.cmd.flags.rate) N s.timers.step
    obtain ⟨t, hrun, harrived⟩ := htakes s hrestoring
    exact ⟨n, t, hrun, harrived.track, harrived.tr, harrived.done, nofun, fun _ => hbound⟩

end Sys2Proof.Proofs

/-! PROOFS. The phases of Type II, one equation per branch (42_type2 R241 to R253). -/

namespace Sys2Proof.Proofs

open Sys2Proof.Machine Sys2Proof.Claims

/-! A phase as step 4 of a tick (40_common R165, R167). -/

section InPhase

variable {s u : State} {n : CmdName} {e : TickEvents}

/-- In a phase of the command in flight, step 4 does what the handler does in that phase. -/
theorem commandStep_of_handler {p : Phase} {dt : Time} (h : s.InPhase n p e)
    (hhandler : s.cmd.phase = p → s.handler n dt e = u) : s.commandStep dt e = u := by
  rw [commandStep_of_inPhase dt h]
  obtain ⟨-, -, hphase, -⟩ := h
  exact hhandler hphase

theorem commandStep_xEDelay (dt : Time) (h : s.InPhase n .xEDelay e) : s.commandStep dt e = s.eDelayPhase dt :=
  commandStep_of_handler h fun hphase => by simp only [State.handler, hphase]

theorem commandStep_xWaitHlt (dt : Time) (h : s.InPhase n .xWaitHlt e) : s.commandStep dt e = s.hltGate n :=
  commandStep_of_handler h fun hphase => by simp only [State.handler, hphase]

theorem commandStep_secSearchId (dt : Time) (h : s.InPhase n .secSearchId e) :
    s.commandStep dt e = s.searchIdPhase n e :=
  commandStep_of_handler h fun hphase => by simp only [State.handler, hphase]

theorem commandStep_rsSearchDam (dt : Time) (h : s.InPhase n .rsSearchDam e) :
    s.commandStep dt e = s.searchDamPhase e :=
  commandStep_of_handler h fun hphase => by simp only [State.handler, hphase]

theorem commandStep_rsData (dt : Time) (h : s.InPhase n .rsData e) : s.commandStep dt e = s.readDataPhase e :=
  commandStep_of_handler h fun hphase => by simp only [State.handler, hphase]

theorem commandStep_rsCrc (dt : Time) (h : s.InPhase n .rsCrc e) : s.commandStep dt e = s.readCrcPhase e :=
  commandStep_of_handler h fun hphase => by simp only [State.handler, hphase]

theorem commandStep_wsGap (dt : Time) (h : s.InPhase n .wsGap e) : s.commandStep dt e = s.writeGapPhase e :=
  commandStep_of_handler h fun hphase => by simp only [State.handler, hphase]

theorem commandStep_wsMark (dt : Time) (h : s.InPhase n .wsMark e) : s.commandStep dt e = s.writeMarkPhase e :=
  commandStep_of_handler h fun hphase => by simp only [State.handler, hphase]

theorem commandStep_wsData (dt : Time) (h : s.InPhase n .wsData e) : s.commandStep dt e = s.writeDataPhase e :=
  commandStep_of_handler h fun hphase => by simp only [State.handler, hphase]

theorem commandStep_wsCrc (dt : Time) (h : s.InPhase n .wsCrc e) : s.commandStep dt e = s.writeCrcPhase e :=
  commandStep_of_handler h fun hphase => by simp only [State.handler, hphase]

end InPhase

/-! The target's image offset and the HLT gate (42_type2 R242, R243). -/

theorem setImageOffset_eq_targetOffset (s : State) :
    s.setImageOffset = { s with head.imageOffset := targetOffset s } := by
  unfold State.setImageOffset targetOffset
  split <;> rfl

theorem hltGate_waits {s : State} {n : CmdName} (hhlt : s.pins.hlt = false) : s.hltGate n = s :=
  if_neg (Bool.eq_false_iff.mp hhlt)

theorem hltGate_opens {s : State} {n : CmdName} (hhlt : s.pins.hlt = true) :
    s.hltGate n = State.startDataPhase n { s with prog.startByteSet := true, head.startPtr := s.head.rotPtr } :=
  if_pos hhlt

/-- Both sector commands record their target and start the ID search. -/
theorem startDataPhase_sector {n : CmdName} (hn : n = .readSector ∨ n = .writeSector) (s : State) :
    s.startDataPhase n =
      { s with head.imageOffset := targetOffset s, search := freshSearch s.search, cmd.phase := .secSearchId } := by
  rcases hn with rfl | rfl <;> simp only [State.startDataPhase, setImageOffset_eq_targetOffset] <;> rfl

/-- Settles O31: the wait of the E-delay, the closed gate, and the open gate command by command. -/
theorem hltGateStartsTheDataPhase : Obligations.HltGateStartsTheDataPhase := by
  intro s dt e n
  refine ⟨fun hphase => commandStep_xEDelay dt hphase,
    fun hphase hhlt => (commandStep_xWaitHlt dt hphase).trans (hltGate_waits hhlt), fun hphase hhlt => ?opens⟩
  case opens =>
    rw [commandStep_xWaitHlt dt hphase, hltGate_opens hhlt]
    refine ⟨fun hn => startDataPhase_sector hn _, ?_, ?_, ?_⟩ <;> rintro rfl <;> rfl

/-! The ID search (42_type2 R244). -/

section SearchId

variable {s : State} {n : CmdName} {e : TickEvents}

/-- The ID field is that of the sector the command looks for. -/
def TargetId (s : State) (id : IdField) : Prop :=
  id.track = s.regs.tr ∧ id.side.toNat = s.pins.sideSelect.toNat ∧ id.sector = s.regs.sr
    ∧ seclen id.lengthCode s.cmd.flags.lengthSwap = s.medium.geom.slen

theorem byte_eq_ofNat_bool_iff (v : Byte) (b : Bool) : v = BitVec.ofNat 8 b.toNat ↔ v.toNat = b.toNat := by
  have hbit := b.toNat_lt
  rw [← BitVec.toNat_inj, BitVec.toNat_ofNat, Nat.mod_eq_of_lt (by omega)]

theorem idMatches_iff (s : State) : s.idMatches = true ↔ TargetId s s.search.idBuf := by
  simp only [State.idMatches, TargetId, Bool.and_eq_true, decide_eq_true_eq, byte_eq_ofNat_bool_iff, and_assoc]

/-- Collecting an ID byte does not change what the command looks for. -/
theorem idByte_idMatches_iff (b : Byte) (s : State) :
    (s.idByte b).idMatches = true ↔ TargetId s (s.idByte b).search.idBuf := by
  obtain ⟨htr, hsr⟩ := s.idByte_regs b
  simp only [idMatches_iff, TargetId, htr, hsr, State.idByte_pins, State.idByte_cmd, State.idByte_medium]

theorem searchIdPhase_no_byte (hbyte : e.be = false) : s.searchIdPhase n e = s.searchWindow e.ie :=
  if_neg (Bool.eq_false_iff.mp hbyte)

/-- The target's ID field: its CRC decides. -/
theorem searchIdPhase_target {ok : Bool} (hbyte : e.be = true) (hfield : s.idResult e.b = some ok)
    (htarget : TargetId s (s.idByte e.b).search.idBuf) :
    s.searchIdPhase n e =
      if ok then (s.idByte e.b).idMatched n
      else State.searchWindow e.ie { s.idByte e.b with latched.crcError := true } := by
  simp only [State.searchIdPhase, hbyte, if_true, hfield, if_pos ((idByte_idMatches_iff e.b s).mpr htarget)]

/-- No ID field completed, or one of another sector: the byte is taken and the window counts. -/
theorem searchIdPhase_other (hbyte : e.be = true)
    (hother : s.idResult e.b = none ∨ ¬ TargetId s (s.idByte e.b).search.idBuf) :
    s.searchIdPhase n e = (s.idByte e.b).searchWindow e.ie := by
  simp only [State.searchIdPhase, hbyte, if_true]
  cases hfield : s.idResult e.b with
  | none => rfl
  | some ok =>
    have htarget : ¬ TargetId s (s.idByte e.b).search.idBuf := hother.resolve_left (by rw [hfield]; nofun)
    exact if_neg (mt (idByte_idMatches_iff e.b s).mp htarget)

end SearchId

/-- Settles O32: no byte, the target's ID field with either CRC result, and the rest. -/
theorem sectorSearchMatchesTheWholeId : Obligations.SectorSearchMatchesTheWholeId := by
  intro s dt e n _ hphase
  rw [commandStep_secSearchId dt hphase]
  refine ⟨searchIdPhase_no_byte, fun hbyte => ⟨fun hgood htarget hn => ?read, fun hgood htarget hn => ?write,
    searchIdPhase_target hbyte, searchIdPhase_other hbyte⟩⟩
  case read | write =>
    subst hn
    exact searchIdPhase_target hbyte hgood htarget

/-! The data-mark search (42_type2 R245). -/

section SearchDam

variable {s : State} {e : TickEvents}

/-- One byte of the data-mark search: counted, and at the detector. -/
def damByte (b : Byte) (s : State) : State :=
  { s.detect b [0xFB, 0xF8] with search.damCount := s.search.damCount + 1 }

/-- The detector neither reads nor writes the byte count. -/
theorem detect_of_damCount (d : Density) (q : Search) (b : Byte) (marks : List Byte) (k : Nat) :
    ({ q with damCount := k } : Search).detect d b marks =
      ({ (q.detect d b marks).1 with damCount := k }, (q.detect d b marks).2) := by
  cases d <;> simp only [Search.detect, Search.detectMfm, Search.detectFm, Search.detReset] <;>
    (repeat' split) <;> rfl

theorem detect_counted (b : Byte) (s : State) :
    State.detect b [0xFB, 0xF8] { s with search.damCount := s.search.damCount + 1 } = damByte b s := by
  simp only [State.detect, damByte, detect_of_damCount]

theorem detected_counted (b : Byte) (s : State) :
    State.detected b [0xFB, 0xF8] { s with search.damCount := s.search.damCount + 1 } = s.detected b [0xFB, 0xF8] := by
  simp only [State.detected, detect_of_damCount]

theorem searchDamPhase_no_byte (hbyte : e.be = false) : s.searchDamPhase e = s.searchWindow e.ie :=
  if_neg (Bool.eq_false_iff.mp hbyte)

/-- A data mark starts the data phase, with the CRC that a field behind that mark starts from. -/
theorem searchDamPhase_mark {mark : Byte} (hbyte : e.be = true) (hmark : s.detected e.b [0xFB, 0xF8] = some mark) :
    s.searchDamPhase e =
      { damByte e.b s with
        latched.recordType := decide (mark = 0xF8)
        regs.crc := crc16 (crcPrefix s.medium.density mark)
        search.xferCount := 0
        cmd.phase := .rsData } := by
  simp only [State.searchDamPhase, hbyte, if_true, detected_counted, detect_counted, hmark, ← markPrefix_eq_crcPrefix]
  rfl

/-- At the end of the window the ID search goes on. -/
theorem searchDamPhase_window_ends (hbyte : e.be = true) (hnone : s.detected e.b [0xFB, 0xF8] = none)
    (hend : Config.damWindow s.medium.density ≤ s.search.damCount + 1) :
    s.searchDamPhase e =
      { damByte e.b s with
        search := { (damByte e.b s).search with amFound := false, zr := 0, sc := 0 }, cmd.phase := .secSearchId } := by
  simp only [State.searchDamPhase, hbyte, if_true, detected_counted, detect_counted, hnone]
  exact if_pos hend

theorem searchDamPhase_in_window (hbyte : e.be = true) (hnone : s.detected e.b [0xFB, 0xF8] = none)
    (hmore : s.search.damCount + 1 < Config.damWindow s.medium.density) :
    s.searchDamPhase e = (damByte e.b s).searchWindow e.ie := by
  simp only [State.searchDamPhase, hbyte, if_true, detected_counted, detect_counted, hnone]
  exact if_neg (Nat.not_le.mpr hmore)

end SearchDam

/-- Settles O33: no byte, a mark, and no mark at the end of the window and inside it. -/
theorem dataMarkSearchHasAWindow : Obligations.DataMarkSearchHasAWindow := by
  intro s dt e hphase
  rw [commandStep_rsSearchDam dt hphase]
  exact ⟨searchDamPhase_no_byte, fun hbyte => ⟨fun _ => searchDamPhase_mark hbyte, searchDamPhase_window_ends hbyte,
    searchDamPhase_in_window hbyte⟩⟩

/-! The end of a record (42_type2 R248). -/

/-- With another sector on the track, the next one is searched for. -/
theorem nextRecord_continues {s : State} (hmulti : s.cmd.flags.multi = true)
    (hsector : s.regs.sr.toNat + 1 ≤ s.medium.geom.spt) :
    s.nextRecord =
      { (State.setImageOffset { s with regs.sr := s.regs.sr + 1 }).searchStart with cmd.phase := .secSearchId } :=
  if_pos ⟨hmulti, hsector⟩

theorem nextRecord_ends {s : State} (hlast : s.cmd.flags.multi = false ∨ s.medium.geom.spt < s.regs.sr.toNat + 1) :
    s.nextRecord = s.finish := by
  refine if_neg fun ⟨hmulti, hsector⟩ => ?_
  rcases hlast with hsingle | hend
  · exact absurd (hmulti.symm.trans hsingle) nofun
  · exact Nat.not_le.mpr hend hsector

/-- Settles O35: the two branches of `next_record()`. -/
theorem multipleRecordsAdvanceTheSector : Obligations.MultipleRecordsAdvanceTheSector := by
  refine fun s => ⟨fun hmulti hsector => ?continues, nextRecord_ends⟩
  case continues =>
    rw [nextRecord_continues hmulti hsector, setImageOffset_eq_targetOffset]
    rfl

/-! The data and CRC phases of READ SECTOR (42_type2 R246, R247). -/

section ReadSector

variable {s : State} {e : TickEvents}

theorem readDataPhase_no_byte (hbyte : e.be = false) : s.readDataPhase e = s := if_neg (Bool.eq_false_iff.mp hbyte)

/-- Every byte is delivered; the last one of the sector starts the CRC phase. -/
theorem readDataPhase_byte (hphase : s.cmd.phase = .rsData) (hbyte : e.be = true) :
    s.readDataPhase e =
      { s with
        regs := { s.regs with dsr := e.b, dr := e.b, crc := crcStep s.regs.crc e.b }
        latched.lostData := s.latched.lostData || s.pins.drq
        pins.drq := true
        search.xferCount := s.search.xferCount + 1
        search.crcCount := if s.search.xferCount + 1 = s.medium.geom.slen then 0 else s.search.crcCount
        cmd.phase := if s.search.xferCount + 1 = s.medium.geom.slen then .rsCrc else .rsData } := by
  by_cases hlast : s.search.xferCount + 1 = s.medium.geom.slen
  · simp only [if_pos hlast]
    exact (if_pos hbyte).trans (if_pos hlast)
  · simp only [if_neg hlast, ← hphase]
    exact (if_pos hbyte).trans (if_neg hlast)

theorem crcBufByte_first {b : Byte} (hcount : s.search.crcCount = 0) :
    s.crcBufByte b = { s with regs.dsr := b, search.crcHi := b, search.crcCount := 1 } := by
  simp [State.crcBufByte, hcount]

theorem crcBufByte_second {b : Byte} (hcount : s.search.crcCount = 1) :
    s.crcBufByte b = { s with regs.dsr := b, search.crcLo := b, search.crcCount := 2 } := by
  simp [State.crcBufByte, hcount]

theorem readCrcPhase_no_byte (hbyte : e.be = false) : s.readCrcPhase e = s := if_neg (Bool.eq_false_iff.mp hbyte)

theorem readCrcPhase_first (hbyte : e.be = true) (hcount : s.search.crcCount = 0) :
    s.readCrcPhase e = { s with regs.dsr := e.b, search.crcHi := e.b, search.crcCount := 1 } := by
  simp only [State.readCrcPhase, hbyte, if_true, crcBufByte_first hcount]
  rfl

/-- The second CRC byte decides how the record ends. -/
theorem readCrcPhase_second (hbyte : e.be = true) (hcount : s.search.crcCount = 1) :
    s.readCrcPhase e =
      let t : State := { s with regs.dsr := e.b, search.crcLo := e.b, search.crcCount := 2 }
      if s.regs.crc = crcOfBytes s.search.crcHi e.b then t.nextRecord
      else State.finish { t with latched.crcError := true } := by
  simp only [State.readCrcPhase, hbyte, if_true, crcBufByte_second hcount]

end ReadSector

/-- Settles O34: a data byte, the two CRC bytes, and no byte. -/
theorem readSectorTransfersAndChecks : Obligations.ReadSectorTransfersAndChecks := by
  refine fun s dt e => ⟨fun hphase hbyte => ?data, fun hphase hbyte hcount => ?crcHi, fun hphase hbyte hcount => ?crcLo,
    fun hphase hbyte => ?quiet⟩
  case data =>
    rw [commandStep_rsData dt hphase]
    obtain ⟨-, -, hdata, -⟩ := hphase
    exact readDataPhase_byte hdata hbyte
  case crcHi => exact (commandStep_rsCrc dt hphase).trans (readCrcPhase_first hbyte hcount)
  case crcLo => exact (commandStep_rsCrc dt hphase).trans (readCrcPhase_second hbyte hcount)
  case quiet =>
    rcases hphase with hdata | hcrc
    · exact (commandStep_rsData dt hdata).trans (readDataPhase_no_byte hbyte)
    · exact (commandStep_rsCrc dt hcrc).trans (readCrcPhase_no_byte hbyte)

/-! The gap and the mark of WRITE SECTOR (42_type2 R250, R251). -/

section WriteGap

variable {s : State} {e : TickEvents}

theorem writeGapPhase_no_byte (hbyte : e.be = false) : s.writeGapPhase e = s := if_neg (Bool.eq_false_iff.mp hbyte)

theorem writeGapPhase_counts (hbyte : e.be = true) (hmore : s.search.wcount + 1 ≠ Config.writeGap s.medium.density) :
    s.writeGapPhase e = { s with search.wcount := s.search.wcount + 1 } := by
  simp only [State.writeGapPhase, hbyte, if_true, if_neg hmore]

/-- At the end of the gap a `DRQ` still set means the host supplied no first byte. -/
theorem writeGapPhase_lost (hbyte : e.be = true) (hend : s.search.wcount + 1 = Config.writeGap s.medium.density)
    (hdrq : s.pins.drq = true) :
    s.writeGapPhase e =
      State.finish
        { s with
          search.wcount := Config.writeGap s.medium.density, latched.lostData := true, pins.drq := false } := by
  simp only [State.writeGapPhase, hbyte, if_true, hend, hdrq]

theorem writeGapPhase_supplied (hbyte : e.be = true) (hend : s.search.wcount + 1 = Config.writeGap s.medium.density)
    (hdrq : s.pins.drq = false) :
    s.writeGapPhase e = { s with search.wcount := 0, cmd.phase := .wsMark } := by
  simp only [State.writeGapPhase, hbyte, if_true, hend, hdrq, Bool.false_eq_true, if_false]

theorem syncBytes_eq_markField (d : Density) (mark : Byte) : syncBytes d mark = markField d mark := by
  cases d <;> rfl

/-- One byte of the sync field and mark, shifted out. -/
def markByte (s : State) : State :=
  { s with
    regs.dsr := (markField s.medium.density (dataMark s.cmd.flags.a0)).getD s.search.wcount 0
    search.wcount := s.search.wcount + 1 }

theorem writeMarkPhase_no_byte (hbyte : e.be = false) : s.writeMarkPhase e = s := if_neg (Bool.eq_false_iff.mp hbyte)

theorem writeMarkPhase_shifts (hbyte : e.be = true) (hmore : s.search.wcount + 1 ≠ Config.writeMark s.medium.density) :
    s.writeMarkPhase e = markByte s := by
  simp only [State.writeMarkPhase, hbyte, if_true, if_neg hmore, syncBytes_eq_markField, markByte]

/-- Behind the mark the data phase starts, with the CRC that a field behind that mark starts from. -/
theorem writeMarkPhase_last (hbyte : e.be = true) (hlast : s.search.wcount + 1 = Config.writeMark s.medium.density) :
    s.writeMarkPhase e =
      { markByte s with
        regs.crc := crc16 (crcPrefix s.medium.density (dataMark s.cmd.flags.a0))
        search.xferCount := 0
        cmd.phase := .wsData } := by
  simp only [State.writeMarkPhase, hbyte, if_true, if_pos hlast, syncBytes_eq_markField, ← markPrefix_eq_crcPrefix]
  rfl

end WriteGap

/-- Settles O36: the gap and its two ends, the mark and its last byte, and no byte. -/
theorem writeSectorGapAndMark : Obligations.WriteSectorGapAndMark := by
  refine fun s dt e => ⟨fun hphase hbyte => ?gap, fun hphase hbyte => ?mark, fun hphase hbyte => ?quiet⟩
  case gap =>
    rw [commandStep_wsGap dt hphase]
    exact ⟨writeGapPhase_counts hbyte, writeGapPhase_lost hbyte, writeGapPhase_supplied hbyte⟩
  case mark =>
    rw [commandStep_wsMark dt hphase]
    exact ⟨writeMarkPhase_shifts hbyte, writeMarkPhase_last hbyte⟩
  case quiet =>
    rcases hphase with hgap | hmark
    · exact (commandStep_wsGap dt hgap).trans (writeGapPhase_no_byte hbyte)
    · exact (commandStep_wsMark dt hmark).trans (writeMarkPhase_no_byte hbyte)

/-! The data and CRC phases of WRITE SECTOR (42_type2 R252, R253). -/

section WriteData

variable {s : State} {e : TickEvents}

/-- One data byte taken from the host, into the CRC, and counted. -/
def writtenByte (s : State) : State :=
  { s with
    regs := { s.regs with dsr := s.takenByte, crc := crcStep s.regs.crc s.takenByte }
    latched.lostData := s.latched.lostData || s.pins.drq
    search.xferCount := s.search.xferCount + 1 }

theorem writeDataPhase_no_byte (hbyte : e.be = false) : s.writeDataPhase e = s := if_neg (Bool.eq_false_iff.mp hbyte)

theorem writeDataPhase_asks (hbyte : e.be = true) (hmore : s.search.xferCount + 1 < s.medium.geom.slen) :
    s.writeDataPhase e = { writtenByte s with pins.drq := true } :=
  (if_pos hbyte).trans (if_pos hmore)

theorem writeDataPhase_last (hbyte : e.be = true) (hlast : s.medium.geom.slen ≤ s.search.xferCount + 1) :
    s.writeDataPhase e = { writtenByte s with pins.drq := false, search.crcCount := 0, cmd.phase := .wsCrc } :=
  (if_pos hbyte).trans (if_neg (Nat.not_lt.mpr hlast))

theorem writeCrcPhase_no_byte (hbyte : e.be = false) : s.writeCrcPhase e = s := if_neg (Bool.eq_false_iff.mp hbyte)

theorem writeCrcPhase_first (hbyte : e.be = true) (hcount : s.search.crcCount = 0) :
    s.writeCrcPhase e = { s with regs.dsr := crcHiByte s.regs.crc, search.crcCount := 1 } := by
  simp only [State.writeCrcPhase, hbyte, if_true, hcount]
  rfl

theorem writeCrcPhase_second (hbyte : e.be = true) (hcount : s.search.crcCount = 1) :
    s.writeCrcPhase e = State.nextRecord { s with regs.dsr := crcLoByte s.regs.crc, search.crcCount := 2 } := by
  simp only [State.writeCrcPhase, hbyte, if_true, hcount]
  rfl

end WriteData

/-- Settles O37: a data byte and the last one, the two CRC bytes, and no byte. -/
theorem writeSectorTakesBytes : Obligations.WriteSectorTakesBytes := by
  refine fun s dt e => ⟨fun hphase hbyte => ?data, fun hphase hbyte hcount => ?crcHi, fun hphase hbyte hcount => ?crcLo,
    fun hphase hbyte => ?quiet⟩
  case data =>
    rw [commandStep_wsData dt hphase]
    exact ⟨writeDataPhase_asks hbyte, writeDataPhase_last hbyte⟩
  case crcHi => exact (commandStep_wsCrc dt hphase).trans (writeCrcPhase_first hbyte hcount)
  case crcLo => exact (commandStep_wsCrc dt hphase).trans (writeCrcPhase_second hbyte hcount)
  case quiet =>
    rcases hphase with hdata | hcrc
    · exact (commandStep_wsData dt hdata).trans (writeDataPhase_no_byte hbyte)
    · exact (commandStep_wsCrc dt hcrc).trans (writeCrcPhase_no_byte hbyte)

end Sys2Proof.Proofs

/-! PROOFS. The phases of Type III, one equation per branch (43_type3 R281 to R286). -/

namespace Sys2Proof.Proofs

open Sys2Proof.Machine Sys2Proof.Claims

/-! A phase as step 4 of a tick (40_common R165, R167). -/

section InPhase

variable {s : State} {n : CmdName} {e : TickEvents}

theorem commandStep_raSearch (dt : Time) (h : s.InPhase n .raSearch e) : s.commandStep dt e = s.readAddressSearch e :=
  commandStep_of_handler h fun hphase => by simp only [State.handler, hphase]

theorem commandStep_raXfer (dt : Time) (h : s.InPhase n .raXfer e) : s.commandStep dt e = s.readAddressXfer e :=
  commandStep_of_handler h fun hphase => by simp only [State.handler, hphase]

theorem commandStep_rtXfer (dt : Time) (h : s.InPhase n .rtXfer e) : s.commandStep dt e = s.readTrackXfer e :=
  commandStep_of_handler h fun hphase => by simp only [State.handler, hphase]

theorem commandStep_wtXfer (dt : Time) (h : s.InPhase n .wtXfer e) : s.commandStep dt e = s.writeTrackXfer e :=
  commandStep_of_handler h fun hphase => by simp only [State.handler, hphase]

end InPhase

/-! READ ADDRESS (43_type3 R281, R282). -/

section ReadAddress

variable {s : State} {e : TickEvents}

theorem readAddressSearch_no_byte (hbyte : e.be = false) : s.readAddressSearch e = s.searchWindow e.ie :=
  if_neg (Bool.eq_false_iff.mp hbyte)

/-- An ID mark starts the transfer, with the CRC that a field behind that mark starts from. -/
theorem readAddressSearch_mark (hbyte : e.be = true) (hmark : s.detected e.b [0xFE] = some 0xFE) :
    s.readAddressSearch e =
      { s.detect e.b [0xFE] with
        regs.crc := crc16 (crcPrefix s.medium.density 0xFE), search.xferCount := 0, cmd.phase := .raXfer } := by
  simp only [State.readAddressSearch, hbyte, if_true, hmark, ← markPrefix_eq_crcPrefix]
  rfl

/-- A byte that is no mark goes to the detector, and the window counts. -/
theorem readAddressSearch_none (hbyte : e.be = true) (hnone : s.detected e.b [0xFE] = none) :
    s.readAddressSearch e = (s.detect e.b [0xFE]).searchWindow e.ie := by
  simp only [State.readAddressSearch, hbyte, if_true, hnone]

/-- What one byte of the ID field writes: the CRC is over the first four. -/
theorem readAddressByte_eq (b : Byte) (s : State) :
    s.readAddressByte b =
      { s with
        regs :=
          { s.regs with
            dsr := b, dr := b, crc := if s.search.xferCount < 4 then crcStep s.regs.crc b else s.regs.crc }
        latched.lostData := s.latched.lostData || s.pins.drq
        pins.drq := true
        search.idBuf := s.search.idBuf.set s.search.xferCount b
        search.xferCount := s.search.xferCount + 1 } := rfl

theorem readAddressXfer_no_byte (hbyte : e.be = false) : s.readAddressXfer e = s :=
  if_neg (Bool.eq_false_iff.mp hbyte)

theorem readAddressXfer_goes_on (hbyte : e.be = true) (hmore : s.search.xferCount + 1 ≠ 6) :
    s.readAddressXfer e = s.readAddressByte e.b :=
  (if_pos hbyte).trans (if_neg hmore)

theorem readAddressXfer_last (hbyte : e.be = true) (hlast : s.search.xferCount + 1 = 6) :
    s.readAddressXfer e = (s.readAddressByte e.b).readAddressEnd :=
  (if_pos hbyte).trans (if_pos hlast)

end ReadAddress

/-- Settles O38: the search with a mark, with another byte and with none, and the transfer with a byte and with none. -/
theorem readAddressStreamsTheIdField : Obligations.ReadAddressStreamsTheIdField := by
  refine fun s dt e => ⟨fun hphase hbyte hmark => ?mark, fun hphase hbyte hnone => ?other, fun hphase hbyte => ?quiet,
    fun hphase hbyte => ?byte, fun hphase hbyte => ?wait⟩
  case mark => exact (commandStep_raSearch dt hphase).trans (readAddressSearch_mark hbyte hmark)
  case other => exact (commandStep_raSearch dt hphase).trans (readAddressSearch_none hbyte hnone)
  case quiet => exact (commandStep_raSearch dt hphase).trans (readAddressSearch_no_byte hbyte)
  case byte =>
    rw [commandStep_raXfer dt hphase, ← readAddressByte_eq]
    exact ⟨readAddressXfer_goes_on hbyte, readAddressXfer_last hbyte⟩
  case wait => exact (commandStep_raXfer dt hphase).trans (readAddressXfer_no_byte hbyte)

/-! READ TRACK (43_type3 R284). -/

section ReadTrack

variable {s : State} {e : TickEvents}

theorem readTrackXfer_no_byte (hbyte : e.be = false) : s.readTrackXfer e = s := if_neg (Bool.eq_false_iff.mp hbyte)

/-- Every byte is delivered; the last one of the revolution ends the command. -/
theorem readTrackXfer_byte (hbyte : e.be = true) :
    s.readTrackXfer e =
      let t : State := { s.deliver e.b with search.xferCount := s.search.xferCount + 1 }
      if s.search.xferCount + 1 = revolutionBytes s.medium.density then t.finish else t := by
  rw [← trackLen_eq_revolutionBytes]
  exact if_pos hbyte

end ReadTrack

/-! WRITE TRACK (43_type3 R286). -/

section WriteTrack

variable {s : State} {e : TickEvents}

theorem writeTrackXfer_no_byte (hbyte : e.be = false) : s.writeTrackXfer e = s := if_neg (Bool.eq_false_iff.mp hbyte)

/-- A `DRQ` still set at the first byte event means the host supplied no first byte. -/
theorem writeTrackXfer_lost (hbyte : e.be = true) (hfirst : s.search.xferCount = 0) (hdrq : s.pins.drq = true) :
    s.writeTrackXfer e = State.finish { s with latched.lostData := true, pins.drq := false } :=
  (if_pos hbyte).trans (if_pos ⟨hfirst, hdrq⟩)

/-- Every other byte event takes a byte and asks for the next; the last one of the revolution ends the command. -/
theorem writeTrackXfer_takes (hbyte : e.be = true) (hsupplied : ¬ (s.search.xferCount = 0 ∧ s.pins.drq = true)) :
    s.writeTrackXfer e =
      let t : State := { s.take with search.xferCount := s.search.xferCount + 1 }
      if s.search.xferCount + 1 < revolutionBytes s.medium.density then { t with pins.drq := true }
      else State.finish { t with pins.drq := false } := by
  rw [← trackLen_eq_revolutionBytes]
  exact (if_pos hbyte).trans (if_neg hsupplied)

end WriteTrack

/-- Settles O39: a byte of READ TRACK, WRITE TRACK without its first byte and with it, and no byte. -/
theorem trackTransfersTakeOneRevolution : Obligations.TrackTransfersTakeOneRevolution := by
  refine fun s dt e => ⟨fun hphase hbyte => ?read, fun hphase hbyte hfirst hdrq => ?lost,
    fun hphase hbyte hsupplied => ?write, fun hphase hbyte => ?quiet⟩
  case read => exact (commandStep_rtXfer dt hphase).trans (readTrackXfer_byte hbyte)
  case lost => exact (commandStep_wtXfer dt hphase).trans (writeTrackXfer_lost hbyte hfirst hdrq)
  case write => exact (commandStep_wtXfer dt hphase).trans (writeTrackXfer_takes hbyte hsupplied)
  case quiet =>
    rcases hphase with hread | hwrite
    · exact (commandStep_rtXfer dt hread).trans (readTrackXfer_no_byte hbyte)
    · exact (commandStep_wtXfer dt hwrite).trans (writeTrackXfer_no_byte hbyte)

end Sys2Proof.Proofs

/-! PROOFS. FORCE INTERRUPT, every field said (44_type4 R310, R311). -/

namespace Sys2Proof.Proofs

open Sys2Proof.Machine

section ForceInterrupt

variable {c : BitVec 4} {s : State}

/-- With no command in flight the byte becomes the last command. -/
theorem forceInterrupt_idle (hdone : s.prog.commandDone = true) :
    s.forceInterrupt c =
      { s with
        regs.cr := encode (.forceInterrupt c)
        statusLayout := .typeI
        pins := { s.pins with intrq := c.getLsbD 3, drq := false }
        cmd := { s.cmd with cmdType := some .IV, cmdName := some .forceInterrupt, armed := Armed.ofNibble c }
        prog := { s.prog with terminateCommand := false } } := by
  have hcontext : (forceArmed c s).forceOnCommand (c.getLsbD 3) =
      { forceArmed c s with
        cmd.cmdType := some .IV, cmd.cmdName := some .forceInterrupt, statusLayout := .typeI, pins.drq := false } :=
    if_pos hdone
  rw [forceInterrupt_eq, hcontext]
  rfl

/-- Nibble 0 and I3 terminate the command in flight. -/
theorem forceInterrupt_terminates (hbusy : s.prog.commandDone = false) (hends : c = 0 ∨ c.getLsbD 3 = true) :
    s.forceInterrupt c =
      { s with
        regs.cr := encode (.forceInterrupt c)
        pins := { s.pins with intrq := c.getLsbD 3, drq := false }
        cmd := { s.cmd with phase := .idle, armed := Armed.ofNibble c }
        prog := { s.prog with commandDone := true, terminateCommand := false } } := by
  have hterminate : (forceArmed c s).forceOnCommand (c.getLsbD 3) = (forceArmed c s).terminate :=
    (if_neg (Bool.eq_false_iff.mp hbusy)).trans (if_pos (hends.imp_left decide_eq_true))
  rw [forceInterrupt_eq, hterminate]
  rfl

/-- Any other nibble only arms its conditions; I3 is not among them, so `INTRQ` falls. -/
theorem forceInterrupt_arms (hbusy : s.prog.commandDone = false) (hgoes : ¬ (c = 0 ∨ c.getLsbD 3 = true)) :
    s.forceInterrupt c =
      { s with
        regs.cr := encode (.forceInterrupt c)
        pins := { s.pins with intrq := false }
        cmd := { s.cmd with armed := Armed.ofNibble c }
        prog := { s.prog with terminateCommand := false } } := by
  obtain ⟨-, hi3⟩ := not_or.mp hgoes
  have hkeeps : (forceArmed c s).forceOnCommand (c.getLsbD 3) = forceArmed c s :=
    (if_neg (Bool.eq_false_iff.mp hbusy)).trans (if_neg (mt (Or.imp_left of_decide_eq_true) hgoes))
  rw [forceInterrupt_eq, hkeeps, Bool.eq_false_iff.mpr hi3]
  rfl

end ForceInterrupt

/-- Settles O12: with no command in flight, with one that the nibble ends, and with one that goes on. -/
theorem forceInterruptActsAtOnce : Obligations.ForceInterruptActsAtOnce := by
  intro c s armed
  refine congrArg (fun t : State => Host.Outcome.next t.statusRefresh) (?_ : s.forceInterrupt c = _)
  cases hflag : s.prog.commandDone
  case true => exact forceInterrupt_idle hflag
  case false =>
    by_cases hends : c = 0 ∨ c.getLsbD 3 = true
    · exact (forceInterrupt_terminates hflag hends).trans (if_pos hends).symm
    · exact (forceInterrupt_arms hflag hends).trans (if_neg hends).symm

end Sys2Proof.Proofs

/-! PROOFS. The rotation is exact: the total time since reset is counted whole in revolutions, bytes and a remainder
(60_exceptions R350). -/

namespace Sys2Proof.Proofs

open Sys2Proof.Machine Sys2Proof.Claims

/-- The rotation reads the total time, the pointer, the accumulator and the density. -/
theorem spinning_congr {s t : State} (h : s.Spinning) (hmaster : t.timers.master = s.timers.master)
    (hacc : t.timers.rotAcc = s.timers.rotAcc) (hptr : t.head.rotPtr = s.head.rotPtr)
    (hmedium : t.medium = s.medium) : t.Spinning := by
  obtain ⟨revs, htime⟩ := h
  exact ⟨revs, by rw [hmaster, hacc, hptr, hmedium, htime]⟩

/-- One byte on from `ptr`, the pointer and the revolutions it completes count one byte more. -/
theorem exists_revolutions_of_next_byte (revs ptr len : Nat) :
    ∃ revs' : Nat, revs' * len + (ptr + 1) % len = revs * len + ptr + 1 := by
  refine ⟨revs + (ptr + 1) / len, ?_⟩
  calc (revs + (ptr + 1) / len) * len + (ptr + 1) % len
      = revs * len + (len * ((ptr + 1) / len) + (ptr + 1) % len) := by ring
    _ = revs * len + ptr + 1 := by rw [Nat.div_add_mod, Nat.add_assoc]

/-- A tick adds `dt` to the total time, and `dt` to the accumulator or a byte to the pointer and the rest of `dt` to the
accumulator (60_exceptions R350, R356). -/
theorem tickHead_spinning (dt : Time) {s : State} (h : s.Spinning) : (s.tickHead dt).Spinning := by
  obtain ⟨revs, htime⟩ := h
  rw [State.tickHead_eq]
  cases s.byteEvent dt with
  | true =>
    obtain ⟨revs', hbytes⟩ :=
      exists_revolutions_of_next_byte revs s.head.rotPtr (Config.trackLen s.medium.density)
    refine ⟨revs', ?_⟩
    simp only [if_true, hbytes, htime]
    push_cast
    ring
  | false =>
    refine ⟨revs, ?_⟩
    simp only [Bool.false_eq_true, if_false, htime]
    ring

theorem hldSet_master (s : State) : s.hldSet.timers.master = s.timers.master := s.hldSet_frame.master

theorem type1Setup_master (dir : Bool) (s : State) : (s.type1Setup dir).timers.master = s.timers.master := by
  rw [State.type1Setup, headLoadAtStart_eq]

theorem type23Setup_master (s : State) : s.type23Setup.timers.master = s.timers.master := by
  simp [State.type23Setup, hldSet_master]

/-- Step 4 and the condition of I2 write none of the four fields; only steps 1 to 3 rotate the disk. -/
theorem spinning_of_commandFrame {s t : State} (hframe : s.CommandFrame t) (h : s.Spinning) : t.Spinning :=
  spinning_congr h hframe.master hframe.rotAcc hframe.rotPtr hframe.medium

theorem spinning_kept : KeptByCalls State.Spinning where
  core hcore h := spinning_congr h (by rw [hcore.timers]) (by rw [hcore.timers]) (by rw [hcore.head]) hcore.medium
  reset _ _ _ _ := ⟨0, by simp [State.resetWith, State.reset]⟩
  startTypeI _ _ _ _ _ _ h :=
    spinning_congr h (by rw [type1Setup_master]; rfl) (by rw [type1Setup_rotAcc]; rfl) (by simp) (by simp)
  startTypeIIorIII _ _ _ _ _ _ h :=
    spinning_congr h (by rw [type23Setup_master]; rfl) (by rw [type23Setup_rotAcc]; rfl) (by simp) (by simp)
  abort _ _ _ _ _ _ h := h
  force c s h := by
    obtain ⟨htimers, hhead, -, hmedium⟩ := forceInterrupt_frame c s
    exact spinning_congr h (by rw [htimers]) (by rw [htimers]) (by rw [hhead]) hmedium
  fire s h := spinning_of_commandFrame s.fireCondition_frame h
  tickHead dt _ _ _ h := tickHead_spinning dt h
  handler _ dt e s _ _ hphase h := spinning_of_commandFrame (s.handler_handled dt e hphase).1 h
  hldIdle dt s _ h :=
    spinning_congr h (by rw [State.hldIdleStep_eq]) (by rw [State.hldIdleStep_eq]) (by simp) (by simp)

/-- Settles O51: of the operations a call is made of, only the rotation and the reset touch what the rotation reads. -/
theorem stepKeepsTheRotationExact : Obligations.StepKeepsTheRotationExact :=
  fun _ _ hspinning hstep => spinning_kept.step hstep hspinning

end Sys2Proof.Proofs

/-! PROOFS. INTRQ: what each call does to the latch, said once, and from it the events that set it and the events that
clear it (60_exceptions R341, R342). -/

namespace Sys2Proof.Proofs

open Sys2Proof.Machine Sys2Proof.Claims

/-! A latch with events. -/

/-- A latch that was `before` and is `after`: 1 where `sets` happened, 0 where `clears` happened, else as it was. -/
structure Latches (sets clears : Prop) (before after : Bool) : Prop where
  set : sets → after = true
  clear : clears → after = false
  keep : ¬ sets → ¬ clears → after = before

section Latch

variable {sets clears sets' clears' : Prop} {before after : Bool}

/-- A latch that rose was set. -/
theorem Latches.sets_of_rise (h : Latches sets clears before after) (hbefore : before = false)
    (hafter : after = true) : sets := by
  by_contra hsets
  have hclears : ¬ clears := fun hclears => absurd (hafter.symm.trans (h.clear hclears)) nofun
  exact absurd (hafter.symm.trans ((h.keep hsets hclears).trans hbefore)) nofun

/-- A latch that fell was cleared. -/
theorem Latches.clears_of_fall (h : Latches sets clears before after) (hbefore : before = true)
    (hafter : after = false) : clears := by
  by_contra hclears
  have hsets : ¬ sets := fun hsets => absurd (hafter.symm.trans (h.set hsets)) nofun
  exact absurd (hafter.symm.trans ((h.keep hsets hclears).trans hbefore)) nofun

theorem Latches.congr (h : Latches sets clears before after) (hsets : sets' ↔ sets) (hclears : clears' ↔ clears) :
    Latches sets' clears' before after :=
  ⟨fun hs => h.set (hsets.mp hs), fun hc => h.clear (hclears.mp hc),
    fun hs hc => h.keep (mt hsets.mpr hs) (mt hclears.mpr hc)⟩

theorem Latches.of_set (hsets : sets) (hclears : ¬ clears) (hafter : after = true) :
    Latches sets clears before after :=
  ⟨fun _ => hafter, fun hc => absurd hc hclears, fun hs => absurd hsets hs⟩

theorem Latches.of_clear (hsets : ¬ sets) (hclears : clears) (hafter : after = false) :
    Latches sets clears before after :=
  ⟨fun hs => absurd hs hsets, fun _ => hafter, fun _ hc => absurd hclears hc⟩

theorem Latches.of_keep (hsets : ¬ sets) (hclears : ¬ clears) (hafter : after = before) :
    Latches sets clears before after :=
  ⟨fun hs => absurd hs hsets, fun hc => absurd hc hclears, fun _ _ => hafter⟩

end Latch

/-! The command bytes. -/

theorem type1Setup_intrq (dir : Bool) (s : State) : (s.type1Setup dir).pins.intrq = s.pins.intrq := by
  rw [State.type1Setup, headLoadAtStart_eq]

theorem type23Setup_intrq (s : State) : s.type23Setup.pins.intrq = s.pins.intrq := by
  rw [State.type23Setup, hldSet_eq]

/-- FORCE INTERRUPT leaves INTRQ at I3 (44_type4 R310). -/
theorem forceInterrupt_intrq (c : BitVec 4) (s : State) : (s.forceInterrupt c).pins.intrq = c.getLsbD 3 := by
  rw [forceInterrupt_eq]
  rcases State.forceOnCommand_cases (c.getLsbD 3) (forceArmed c s) with ⟨-, ht⟩ | ⟨-, -, ht⟩ | ⟨-, -, ht⟩ <;> rw [ht] <;>
    exact Bool.false_or _

/-- I3 is bit 3 of the byte (30_encoding R129). -/
theorem conditionNibble_i3 {v : Byte} {c : BitVec 4} (h : decode v = .forceInterrupt c) :
    c.getLsbD 3 = v.getLsbD 3 := by
  have htype : classify v = .IV := by rw [← decode_type, h]; rfl
  have hnibble : decode v = .forceInterrupt (v.extractLsb' 0 4) := by rw [decode, htype, decodeTypeIV]
  obtain rfl := Instr.forceInterrupt.inj (h.symm.trans hnibble)
  rw [BitVec.getLsbD_extractLsb']
  rfl

/-- What sets INTRQ in the write of a command byte: the abort of a Type II or III command, or I3 (60_exceptions R341). -/
def CommandSetsIntrq (v : Byte) (s : State) : Prop :=
  (s.prog.commandDone = true ∧ s.pins.ready = false ∧ (classify v = .II ∨ classify v = .III))
    ∨ (classify v = .IV ∧ v.getLsbD 3 = true)

/-- What clears INTRQ in the write of a command byte: a command that starts, or FORCE INTERRUPT without I3
(60_exceptions R342). -/
def CommandClearsIntrq (v : Byte) (s : State) : Prop :=
  (s.prog.commandDone = true ∧ (classify v = .I ∨ ((classify v = .II ∨ classify v = .III) ∧ s.pins.ready = true)))
    ∨ (classify v = .IV ∧ v.getLsbD 3 = false)

/-- A rejected byte leaves INTRQ alone; any other sets or clears it (40_common R158 to R160, 44_type4 R310). -/
theorem exec_intrq {v : Byte} {s t : State} (h : exec (decode v) s = .next t) :
    Latches (CommandSetsIntrq v s) (CommandClearsIntrq v s) s.pins.intrq t.pins.intrq := by
  unfold CommandSetsIntrq CommandClearsIntrq
  rcases exec_cases (decode v) s with ⟨htype, f, dir, hI⟩ | ⟨htype, f, hII⟩ | ⟨c, hc, hIV⟩
  · obtain rfl := Host.Outcome.next.inj (hI.symm.trans h)
    rw [decode_type] at htype
    rcases s.writeTypeI_cases (encode (decode v)) (commandName (decode v)) f dir with ⟨hbusy, ht⟩ | ⟨hdone, ht⟩ <;> rw [ht]
    · exact .of_keep (by simp [hbusy, htype]) (by simp [hbusy, htype]) rfl
    · exact .of_clear (by simp [htype]) (by simp [hdone, htype]) (type1Setup_intrq dir _)
  · obtain rfl := Host.Outcome.next.inj (hII.symm.trans h)
    have hnotI := commandType_ne_I htype
    rw [decode_type] at htype hnotI
    have hnotIV : classify v ≠ .IV := by rcases htype with htype | htype <;> rw [htype] <;> nofun
    rcases s.writeTypeIIorIII_cases (encode (decode v)) (commandName (decode v)) f
      with ⟨hbusy, ht⟩ | ⟨hdone, hready, ht⟩ | ⟨hdone, hready, ht⟩ <;> rw [ht]
    · exact .of_keep (by simp [hbusy, hnotIV]) (by simp [hbusy, hnotIV]) rfl
    · exact .of_set (.inl ⟨hdone, hready, htype⟩) (by simp [hready, hnotI, hnotIV]) rfl
    · exact .of_clear (by simp [hready, hnotIV]) (.inl ⟨hdone, .inr ⟨htype, hready⟩⟩) (type23Setup_intrq _)
  · obtain rfl := Host.Outcome.next.inj (hIV.symm.trans h)
    have htype : classify v = .IV := by rw [← decode_type, hc]; rfl
    have hintrq : (s.forceInterrupt c).pins.intrq = v.getLsbD 3 :=
      (forceInterrupt_intrq c s).trans (conditionNibble_i3 hc)
    cases hi3 : v.getLsbD 3 with
    | true => exact .of_set (.inr ⟨htype, rfl⟩) (by simp [htype]) (hintrq.trans hi3)
    | false => exact .of_clear (by simp [htype]) (.inr ⟨htype, rfl⟩) (hintrq.trans hi3)

/-! The other calls. -/

/-- Of the ports, +0 alone clears INTRQ when it is read (20_memory R72). -/
theorem readPort_intrq (port : Nat) (s : State) : Latches False (port = 0) s.pins.intrq (s.readPort port).pins.intrq := by
  by_cases hport : port = 0
  · subst hport
    exact .of_clear id rfl rfl
  · refine .of_keep id hport ?_
    unfold State.readPort State.portRead
    split
    · exact absurd rfl hport
    · split <;> rfl
    · rfl
    · rfl

theorem writePort_intrq (port : Nat) (v : Byte) (s : State) : (s.writePort port v).pins.intrq = s.pins.intrq := by
  unfold State.writePort State.portWrite
  (repeat' split) <;> rfl

/-- A condition that fires sets INTRQ (44_type4 R313). -/
theorem fireCondition_intrq (s : State) : s.fireCondition.pins.intrq = true := by rw [fireCondition_eq]

/-- The transition of READY to `level` is armed (44_type4 R315). -/
def ArmedTransition (level : Bool) (s : State) : Prop :=
  (s.pins.ready = false ∧ level = true ∧ s.cmd.armed.i0 = true)
    ∨ (s.pins.ready = true ∧ level = false ∧ s.cmd.armed.i1 = true)

/-- An armed transition of READY sets INTRQ (44_type4 R315). -/
theorem setReady_intrq (level : Bool) (s : State) :
    Latches (ArmedTransition level s) False s.pins.intrq (s.setReady level).pins.intrq := by
  unfold State.setReady
  rcases State.readyConditions_cases s.pins.ready level { s with pins.ready := level }
    with ⟨harmed, ht⟩ | ⟨hquiet, ht⟩ <;> rw [ht]
  · exact .of_set harmed id (fireCondition_intrq _)
  · exact .of_keep hquiet id rfl

theorem tickHead_intrq (dt : Time) (s : State) : (s.tickHead dt).pins.intrq = s.pins.intrq := by
  rw [State.tickHead_eq]

theorem hldIdleStep_intrq (dt : Time) (s : State) : (s.hldIdleStep dt).pins.intrq = s.pins.intrq := by
  rw [State.hldIdleStep_eq]

/-- Step 4 of a tick sets INTRQ where it ends the command in flight and where the armed index condition fires
(40_common R165, R170, 44_type4 R314). -/
theorem commandStep_intrq (dt : Time) (e : TickEvents) {s : State}
    (hh : s.prog.commandDone = false → s.hasHandler = true) :
    Latches
      ((s.prog.commandDone = false ∧ (s.commandStep dt e).prog.commandDone = true)
        ∨ (e.ie = true ∧ s.cmd.armed.i2 = true))
      False s.pins.intrq (s.commandStep dt e).pins.intrq := by
  rcases s.commandStep_cases dt e with ⟨hie, harmed, ht⟩ | ⟨hquiet, hdone, ht⟩ | ⟨-, hbusy, hn, -⟩
    | ⟨hquiet, hbusy, n, hn, ht⟩
  · exact .of_set (.inr ⟨hie, harmed⟩) id (by rw [ht, fireCondition_intrq])
  · exact .of_keep (by simp [hdone, hquiet]) id (by rw [ht])
  · exact absurd (hh hbusy) (by simp [State.hasHandler, hn])
  · have hhandles : s.cmd.phase.handles n = true := by simpa [State.hasHandler, hn] using hh hbusy
    rw [ht]
    rcases (s.handler_handled dt e hhandles).2 with ⟨hgoes, -, hintrq⟩ | ⟨hdone, -, hintrq⟩
    · exact .of_keep (by simp [hgoes, hbusy, hquiet]) id hintrq
    · exact .of_set (.inl ⟨hbusy, hdone⟩) id hintrq

/-- Of the five steps of a tick the fourth alone writes INTRQ. -/
theorem tick_intrq (dt : Time) {s : State} (hh : s.prog.commandDone = false → s.hasHandler = true) :
    Latches
      ((s.prog.commandDone = false ∧ (s.tick dt).prog.commandDone = true)
        ∨ ((s.tickEvents dt).ie = true ∧ s.cmd.armed.i2 = true))
      False s.pins.intrq (s.tick dt).pins.intrq := by
  have hstep := commandStep_intrq dt (s.tickEvents dt) (s := s.tickHead dt)
    (by rwa [tickHead_prog, tickHead_hasHandler])
  rw [tickHead_prog, tickHead_cmd, tickHead_intrq] at hstep
  simpa only [State.tick, State.statusRefresh_prog, State.statusRefresh_pins, State.hldIdleStep_prog,
    hldIdleStep_intrq] using hstep

/-! The step. -/

/-- The call sets INTRQ on the way from `s` to `t` (60_exceptions R341). -/
def SetsIntrq (s t : State) : Call → Prop
  | .advance dt =>
    (s.prog.commandDone = false ∧ t.prog.commandDone = true)
      ∨ ((s.tickEvents dt).ie = true ∧ s.cmd.armed.i2 = true)
  | .write port v => port = 0 ∧ CommandSetsIntrq v s
  | .setReady level => ArmedTransition level s
  | .reset _ | .read _ | .pins => False

/-- The call clears INTRQ in `s` (60_exceptions R342). -/
def ClearsIntrq (s : State) : Call → Prop
  | .read port => port = 0
  | .write port v => port = 0 ∧ CommandClearsIntrq v s
  | .reset _ => True
  | .advance _ | .setReady _ | .pins => False

theorem runCall_intrq {c : Call} {s t : State} (h : runCall c s = .next t) :
    Latches (SetsIntrq s t c) (ClearsIntrq s c) s.pins.intrq t.pins.intrq := by
  rcases runCall_cases h with ⟨p, rfl, -, -, rfl⟩ | ⟨v, rfl, hexec⟩ | ⟨p, v, rfl, hp, rfl⟩ | ⟨p, rfl, rfl⟩
    | ⟨dt, rfl, -, -, hh, rfl⟩ | ⟨level, rfl, rfl⟩ | ⟨rfl, rfl⟩
  · exact .of_clear id trivial rfl
  · exact (exec_intrq hexec).congr (and_iff_right rfl) (and_iff_right rfl)
  · exact .of_keep (fun hs => hp hs.1) (fun hc => hp hc.1) (writePort_intrq p v s)
  · exact readPort_intrq p s
  · exact tick_intrq dt hh
  · exact setReady_intrq level s
  · exact .of_keep id id rfl

/-- What a step does to INTRQ, the first pending call decides; with none pending INTRQ stays (log 1). -/
theorem step_intrq {s t : State} (h : step s = .next t) :
    Latches (∃ c rest, s.calls = c :: rest ∧ SetsIntrq s t c) (∃ c rest, s.calls = c :: rest ∧ ClearsIntrq s c)
      s.pins.intrq t.pins.intrq := by
  rcases step_cases h with ⟨hcalls, rfl⟩ | ⟨c, rest, hcalls, hcall⟩
  · exact .of_keep (by simp [hcalls]) (by simp [hcalls]) rfl
  · have hlatch := runCall_intrq hcall
    have hsets : SetsIntrq (s.takeCall rest) t c ↔ SetsIntrq s t c := by
      cases c <;> simp only [SetsIntrq, tickEvents_takeCall] <;> rfl
    have hclears : ClearsIntrq (s.takeCall rest) c ↔ ClearsIntrq s c := by cases c <;> rfl
    exact hlatch.congr (by simp [hcalls, hsets]) (by simp [hcalls, hclears])

/-- Settles O55: `step_intrq`, with the events of R341 sorted by the call they happen in. -/
theorem intrqIsSetByExactlyTheseEvents : Obligations.IntrqIsSetByExactlyTheseEvents := by
  intro s t hstep ended index notReady immediate transition
  have hevents : (∃ c rest, s.calls = c :: rest ∧ SetsIntrq s t c)
      ↔ ended ∨ index ∨ notReady ∨ immediate ∨ transition := by
    constructor
    · rintro ⟨c, rest, hcalls, hsets⟩
      cases c with
      | advance dt =>
        exact hsets.elim (fun hended => .inl ⟨dt, rest, hcalls, hended⟩)
          (fun hindex => .inr (.inl ⟨dt, rest, hcalls, hindex⟩))
      | write port v =>
        obtain ⟨rfl, hsets⟩ := hsets
        exact hsets.elim (fun habort => .inr (.inr (.inl ⟨v, rest, hcalls, habort⟩)))
          (fun hi3 => .inr (.inr (.inr (.inl ⟨v, rest, hcalls, hi3⟩))))
      | setReady level => exact .inr (.inr (.inr (.inr ⟨level, rest, hcalls, hsets⟩)))
      | reset | read | pins => exact hsets.elim
    · rintro (⟨dt, rest, hcalls, hended⟩ | ⟨dt, rest, hcalls, hindex⟩ | ⟨v, rest, hcalls, habort⟩
        | ⟨v, rest, hcalls, hi3⟩ | ⟨level, rest, hcalls, harmed⟩)
      · exact ⟨_, rest, hcalls, .inl hended⟩
      · exact ⟨_, rest, hcalls, .inr hindex⟩
      · exact ⟨_, rest, hcalls, rfl, .inl habort⟩
      · exact ⟨_, rest, hcalls, rfl, .inr hi3⟩
      · exact ⟨_, rest, hcalls, harmed⟩
  have hlatch := (step_intrq hstep).congr hevents.symm Iff.rfl
  exact ⟨hlatch.sets_of_rise, hlatch.set⟩

/-- Settles O56: `step_intrq`, with the events of R342 sorted by the call they happen in. -/
theorem intrqIsClearedByExactlyTheseEvents : Obligations.IntrqIsClearedByExactlyTheseEvents := by
  intro s t hstep statusRead accepted forced reset
  have hevents : (∃ c rest, s.calls = c :: rest ∧ ClearsIntrq s c) ↔ statusRead ∨ accepted ∨ forced ∨ reset := by
    constructor
    · rintro ⟨c, rest, hcalls, hclears⟩
      cases c with
      | read port =>
        obtain rfl := hclears
        exact .inl ⟨rest, hcalls⟩
      | write port v =>
        obtain ⟨rfl, hclears⟩ := hclears
        exact hclears.elim (fun hstarts => .inr (.inl ⟨v, rest, hcalls, hstarts⟩))
          (fun hforced => .inr (.inr (.inl ⟨v, rest, hcalls, hforced⟩)))
      | reset c => exact .inr (.inr (.inr ⟨c, rest, hcalls⟩))
      | advance | setReady | pins => exact hclears.elim
    · rintro (⟨rest, hcalls⟩ | ⟨v, rest, hcalls, hstarts⟩ | ⟨v, rest, hcalls, hforced⟩ | ⟨c, rest, hcalls⟩)
      · exact ⟨_, rest, hcalls, rfl⟩
      · exact ⟨_, rest, hcalls, rfl, .inl hstarts⟩
      · exact ⟨_, rest, hcalls, rfl, .inr hforced⟩
      · exact ⟨_, rest, hcalls, trivial⟩
  have hlatch := (step_intrq hstep).congr Iff.rfl hevents.symm
  exact ⟨hlatch.clears_of_fall, hlatch.clear⟩

end Sys2Proof.Proofs

/-! PROOFS. The HLT one-shot and the idle unload (60_exceptions R354, R355). -/

namespace Sys2Proof.Proofs

open Sys2Proof.Machine Sys2Proof.Claims

/-- `hlt_step(dt)`, branch by branch (60_exceptions R354). -/
theorem hltStep_branches (dt : Time) (s : State) :
    s.hltStep dt =
      if s.pins.hld = true ∧ s.pins.hlt = false then
        (if s.medium.hltDelay ≤ s.timers.hlt + dt then { s with pins.hlt := true, timers.hlt := 0 }
        else { s with timers.hlt := s.timers.hlt + dt })
      else s := by
  simp only [State.hltStep, Bool.not_eq_true]

/-- `hld_idle_step(dt)`, branch by branch (60_exceptions R355). -/
theorem hldIdleStep_branches (dt : Time) (s : State) :
    s.hldIdleStep dt =
      if s.prog.commandDone = false then { s with timers.hldIdle := 0 }
      else if s.pins.hld = true then
        (if 3000000 ≤ s.timers.hldIdle + dt then { s with pins.hld := false, timers.hldIdle := 0 }
        else { s with timers.hldIdle := s.timers.hldIdle + dt })
      else s := by
  unfold State.hldIdleStep
  cases s.prog.commandDone <;> rfl

/-- A byte time is far below the idle time that unloads the head (00_scope R8). -/
theorem byteMicros_lt_hldIdle (d : Density) : byteMicros d < 3000000 := by
  cases d <;> norm_num [byteMicros]

/-- Short of the idle time HLD stays (60_exceptions R355). -/
theorem hldIdleStep_keeps_hld {dt : Time} {s : State} (hshort : s.timers.hldIdle + dt < 3000000) :
    (s.hldIdleStep dt).pins.hld = s.pins.hld := by
  rw [hldIdleStep_branches, if_neg (not_le.mpr hshort)]
  (repeat' split) <;> rfl

/-- Settles O24: the branches of the two steps, and from an idle timer of 0 no tick reaches the idle time. -/
theorem headLoadTimers : Obligations.HeadLoadTimers := by
  intro s dt
  refine ⟨hltStep_branches dt s, hldIdleStep_branches dt s, fun hzero hle => ?_⟩
  have hlt := byteMicros_lt_hldIdle s.medium.density
  exact hldIdleStep_keeps_hld (by rw [hzero]; linarith)

end Sys2Proof.Proofs

/-! PROOFS. The reset call and the state it leaves (70_reset R381, R382). -/

namespace Sys2Proof.Proofs

open Sys2Proof.Machine Sys2Proof.Claims

/-! What a reset call answers. -/

/-- The reset call of a well-formed medium, with the HLT delay in the range of 00_scope R8 (log 9), is taken. -/
theorem resetCall_eq {c : Setup} (s : State) (hmedium : c.mediumWf = true)
    (hdelay : Config.hltDelayOk c.hltDelay = true) : s.resetCall c = .next (s.resetWith c) := by
  rw [State.resetCall, if_neg (by simp [hmedium]), if_neg (by simp [hdelay])]

/-- After reset only NOT READY and TRACK 00 can be 1 in `STR` (70_reset R382). -/
theorem resetWith_str (c : Setup) (s : State) :
    (s.resetWith c).regs.str =
      BitVec.ofNat 8 ((if c.ready then 0 else 0x80) + (if c.initialTrack = 0 then 0x04 else 0)) := by
  have hbits : (s.resetWith c).regs.str =
      byteOfBits (!c.ready) false false false false (!decide (c.initialTrack ≠ 0)) false false := rfl
  rw [hbits]
  by_cases htrack : c.initialTrack = 0 <;> cases c.ready <;> simp only [htrack, ne_eq, not_true, not_false_iff] <;> decide

/-- The state a reset call leaves, its inputs and the model's own fields apart, is that of R381 (70_reset R380, R381; log
15). -/
theorem resetWith_eq (c : Setup) (s : State) :
    s.resetWith c =
      { State.reset with
        regs.str := BitVec.ofNat 8 ((if c.ready then 0 else 0x80) + (if c.initialTrack = 0 then 0x04 else 0))
        pins.ready := c.ready
        head.currentTrack := c.initialTrack
        medium := Medium.ofSetup c
        calls := s.calls
        reply := s.reply
        auxReads := s.auxReads } := by
  rw [← resetWith_str c s]
  rfl

/-- Settles O19: the call is taken, and `resetWith_eq` has the values. -/
theorem resetGivesTheResetState : Obligations.ResetGivesTheResetState := by
  intro s c rest hcall hmedium hmin hmax t
  have hdelay : Config.hltDelayOk c.hltDelay = true := decide_eq_true ⟨hmin, hmax⟩
  refine ⟨?_, decide_eq_true_iff⟩
  rw [step_of_reset hcall, resetCall_eq _ hmedium hdelay, resetWith_eq]
  rfl

/-! The invariants after a reset call. -/

section Invariants

variable {c : Setup} (s : State) (hmedium : c.mediumWf = true) (hdelay : Config.hltDelayOk c.hltDelay = true)
include hmedium hdelay

theorem resetWith_coherent : (s.resetWith c).Coherent := by
  have hdisk : DiskInRange (s.resetWith c) := diskInRange_kept.reset c s hmedium hdelay
  have hcontrol : ControlCoherent (s.resetWith c) := controlCoherent_kept.reset c s hmedium hdelay
  exact
    { busyBit := statusRefresh_busyBit _
      track00 := decide_eq_true_iff
      rotPtr := hdisk.rotPtr
      rotAcc := hdisk.rotAcc
      phaseIdle := hcontrol.phaseIdle
      terminate := hcontrol.terminate
      typeIV := hcontrol.typeIV }

theorem resetWith_sound : (s.resetWith c).Sound := by
  have hsound : MediumSound (Medium.ofSetup c) := ofSetup_mediumSound hmedium hdelay
  exact
    { geometry := hsound.geometry
      hltDelay := hsound.hltDelay
      image := hsound.image
      imageInside := hsound.imageInside
      onMedium := onMedium_kept.reset c s hmedium hdelay
      status := rfl
      oneCommand := oneCommand_kept.reset c s hmedium hdelay
      handled := nofun }

theorem resetWith_timersBounded : (s.resetWith c).TimersBounded :=
  (timersBounded_iff _).mpr (timersInRange_kept.reset c s hmedium hdelay).below

theorem resetWith_countersBounded : (s.resetWith c).CountersBounded :=
  (countersInRange_kept.reset c s hmedium hdelay).bounded

theorem resetWith_spinning : (s.resetWith c).Spinning := spinning_kept.reset c s hmedium hdelay

end Invariants

/-! The state after reset is the one a reset call leaves. -/

/-- The inputs of a reset that leaves `State.reset`: the defaults of 00_scope R8, and the model's disk with all its bytes
zero (log 4). -/
def defaultSetup : Setup where
  density := State.reset.medium.density
  hltDelay := State.reset.medium.hltDelay
  geom := State.reset.medium.geom
  image := List.replicate State.reset.medium.geom.imageLen 0x00
  initialTrack := 0
  ready := true

theorem defaultSetup_mediumWf : defaultSetup.mediumWf = true := by
  have hgeom : State.reset.medium.geom.wf State.reset.medium.density = true := by decide
  simp only [Setup.mediumWf, defaultSetup, hgeom, List.length_replicate, decide_true, Bool.true_and]
  decide

theorem defaultSetup_hltDelayOk : Config.hltDelayOk defaultSetup.hltDelay = true := by
  refine decide_eq_true ⟨?_, le_refl _⟩
  norm_num [defaultSetup, State.reset, Config.hltDelayMin, Config.hltDelayDefault]

/-- Zero bytes load as an image that lists nothing (log 5). -/
theorem ofSetup_defaultSetup : Medium.ofSetup defaultSetup = State.reset.medium := by
  have himage : Memory.ofBytes defaultSetup.image = State.reset.medium.image := Memory.ofBytesFrom_zeros _ 0
  rw [Medium.ofSetup, himage]
  rfl

theorem resetWith_defaultSetup : State.reset.resetWith defaultSetup = State.reset := by
  rw [resetWith_eq, ofSetup_defaultSetup]
  rfl

/-- Settles O47: every reset call of a well-formed medium leaves the invariants, and `State.reset` is what one leaves. -/
theorem resetHasTheInvariants : Obligations.ResetHasTheInvariants := by
  have hmedium := defaultSetup_mediumWf
  have hdelay := defaultSetup_hltDelayOk
  unfold Obligations.ResetHasTheInvariants
  rw [← resetWith_defaultSetup]
  exact ⟨resetWith_coherent _ hmedium hdelay, resetWith_sound _ hmedium hdelay, resetWith_timersBounded _ hmedium hdelay,
    resetWith_countersBounded _ hmedium hdelay, resetWith_spinning _ hmedium hdelay⟩

end Sys2Proof.Proofs
